-- ==== Sys2Proof/Word.lean ====
section
/-! DEFINITION. The two word types of the hardware (R10): a byte of 8 bits and a word of 16 bits. -/

namespace Sys2Proof

/-- A byte: 8 bits, bit 0 least significant (R10). -/
abbrev Byte := BitVec 8

/-- A word: 16 bits, the width of an address, a port address and a register pair (R10, R31). -/
abbrev Word := BitVec 16

end Sys2Proof
end

