-- ==== Sys2Proof/Syntax.lean ====
section
/-! DEFINITION. The instruction set as syntax: one constructor per row of spec/opcode_table.json, and the operand
fields of 30_encoding.md. The rows with operand bytes come first, in the table's order, then the rows without. `n` is an immediate byte, `nn` an immediate word, `e` a relative offset, `d` a
displacement (R150, R157). A `Mem` in a name stands for brackets around what follows it, `Port` for a port in brackets. -/

namespace Sys2Proof

/-- An 8-bit register: `r[k]` without `(HL)` (R153). -/
inductive Reg8 where
  | b
  | c
  | d
  | e
  | h
  | l
  | a
deriving DecidableEq, Repr

/-- A register pair of `rp` (R154). -/
inductive Pair where
  | bc
  | de
  | hl
  | sp
deriving DecidableEq, Repr

/-- A register pair of `rp2` (R154). -/
inductive PairQ where
  | bc
  | de
  | hl
  | af
deriving DecidableEq, Repr

/-- The index register a DD or FD prefix selects (R158). -/
inductive IndexReg where
  | ix
  | iy
deriving DecidableEq, Repr

/-- A condition `cc` (R155). -/
inductive Cond where
  | nz
  | z
  | nc
  | c
  | po
  | pe
  | p
  | m
deriving DecidableEq, Repr

/-- A condition of `JR cc,e` (R155, R424). -/
inductive JrCond where
  | nz
  | z
  | nc
  | c
deriving DecidableEq, Repr

/-- The same condition as a `cc` (R424). -/
def JrCond.toCond : JrCond → Cond
  | .nz => .nz
  | .z => .z
  | .nc => .nc
  | .c => .c

/-- An 8-bit operation `alu[y]` (R156). -/
inductive AluOp where
  | add
  | adc
  | sub
  | sbc
  | and
  | xor
  | or
  | cp
deriving DecidableEq, Repr

/-- A rotate or shift `rot[y]` (R156). -/
inductive RotOp where
  | rlc
  | rrc
  | rl
  | rr
  | sla
  | sra
  | srl
deriving DecidableEq, Repr

/-- The instructions. -/
inductive Instr where
  -- main page, with operand bytes
  | ldBcNn (nn : Word)
  | ldBN (n : Byte)
  | ldCN (n : Byte)
  | djnzE (e : Byte)
  | ldDeNn (nn : Word)
  | ldDN (n : Byte)
  | jrE (e : Byte)
  | ldEN (n : Byte)
  | jrNzE (e : Byte)
  | ldHlNn (nn : Word)
  | ldMemNnHl (nn : Word)
  | ldHN (n : Byte)
  | jrZE (e : Byte)
  | ldHlMemNn (nn : Word)
  | ldLN (n : Byte)
  | jrNcE (e : Byte)
  | ldSpNn (nn : Word)
  | ldMemNnA (nn : Word)
  | ldMemHlN (n : Byte)
  | jrCE (e : Byte)
  | ldAMemNn (nn : Word)
  | ldAN (n : Byte)
  | jpNzNn (nn : Word)
  | jpNn (nn : Word)
  | callNzNn (nn : Word)
  | addAN (n : Byte)
  | jpZNn (nn : Word)
  | callZNn (nn : Word)
  | callNn (nn : Word)
  | adcAN (n : Byte)
  | jpNcNn (nn : Word)
  | outPortNA (n : Byte)
  | callNcNn (nn : Word)
  | subN (n : Byte)
  | jpCNn (nn : Word)
  | inAPortN (n : Byte)
  | callCNn (nn : Word)
  | sbcAN (n : Byte)
  | jpPoNn (nn : Word)
  | callPoNn (nn : Word)
  | andN (n : Byte)
  | jpPeNn (nn : Word)
  | callPeNn (nn : Word)
  | xorN (n : Byte)
  | jpPNn (nn : Word)
  | callPNn (nn : Word)
  | orN (n : Byte)
  | jpMNn (nn : Word)
  | callMNn (nn : Word)
  | cpN (n : Byte)
  -- ED page, with operand bytes
  | ldMemNnBc (nn : Word)
  | ldBcMemNn (nn : Word)
  | ldMemNnDe (nn : Word)
  | ldDeMemNn (nn : Word)
  | ldMemNnHlEd (nn : Word)
  | ldHlMemNnEd (nn : Word)
  | ldMemNnSp (nn : Word)
  | ldSpMemNn (nn : Word)
  -- DD page, with operand bytes
  | ldIxNn (nn : Word)
  | ldMemNnIx (nn : Word)
  | ldIxMemNn (nn : Word)
  | incMemIxd (d : Byte)
  | decMemIxd (d : Byte)
  | ldMemIxdN (d : Byte) (n : Byte)
  | ldBMemIxd (d : Byte)
  | ldCMemIxd (d : Byte)
  | ldDMemIxd (d : Byte)
  | ldEMemIxd (d : Byte)
  | ldHMemIxd (d : Byte)
  | ldLMemIxd (d : Byte)
  | ldMemIxdB (d : Byte)
  | ldMemIxdC (d : Byte)
  | ldMemIxdD (d : Byte)
  | ldMemIxdE (d : Byte)
  | ldMemIxdH (d : Byte)
  | ldMemIxdL (d : Byte)
  | ldMemIxdA (d : Byte)
  | ldAMemIxd (d : Byte)
  | addAMemIxd (d : Byte)
  | adcAMemIxd (d : Byte)
  | subMemIxd (d : Byte)
  | sbcAMemIxd (d : Byte)
  | andMemIxd (d : Byte)
  | xorMemIxd (d : Byte)
  | orMemIxd (d : Byte)
  | cpMemIxd (d : Byte)
  -- FD page, with operand bytes
  | ldIyNn (nn : Word)
  | ldMemNnIy (nn : Word)
  | ldIyMemNn (nn : Word)
  | incMemIyd (d : Byte)
  | decMemIyd (d : Byte)
  | ldMemIydN (d : Byte) (n : Byte)
  | ldBMemIyd (d : Byte)
  | ldCMemIyd (d : Byte)
  | ldDMemIyd (d : Byte)
  | ldEMemIyd (d : Byte)
  | ldHMemIyd (d : Byte)
  | ldLMemIyd (d : Byte)
  | ldMemIydB (d : Byte)
  | ldMemIydC (d : Byte)
  | ldMemIydD (d : Byte)
  | ldMemIydE (d : Byte)
  | ldMemIydH (d : Byte)
  | ldMemIydL (d : Byte)
  | ldMemIydA (d : Byte)
  | ldAMemIyd (d : Byte)
  | addAMemIyd (d : Byte)
  | adcAMemIyd (d : Byte)
  | subMemIyd (d : Byte)
  | sbcAMemIyd (d : Byte)
  | andMemIyd (d : Byte)
  | xorMemIyd (d : Byte)
  | orMemIyd (d : Byte)
  | cpMemIyd (d : Byte)
  -- DD CB page, with operand bytes
  | rlcMemIxd (d : Byte)
  | rrcMemIxd (d : Byte)
  | rlMemIxd (d : Byte)
  | rrMemIxd (d : Byte)
  | slaMemIxd (d : Byte)
  | sraMemIxd (d : Byte)
  | srlMemIxd (d : Byte)
  | bit0MemIxd (d : Byte)
  | bit1MemIxd (d : Byte)
  | bit2MemIxd (d : Byte)
  | bit3MemIxd (d : Byte)
  | bit4MemIxd (d : Byte)
  | bit5MemIxd (d : Byte)
  | bit6MemIxd (d : Byte)
  | bit7MemIxd (d : Byte)
  | res0MemIxd (d : Byte)
  | res1MemIxd (d : Byte)
  | res2MemIxd (d : Byte)
  | res3MemIxd (d : Byte)
  | res4MemIxd (d : Byte)
  | res5MemIxd (d : Byte)
  | res6MemIxd (d : Byte)
  | res7MemIxd (d : Byte)
  | set0MemIxd (d : Byte)
  | set1MemIxd (d : Byte)
  | set2MemIxd (d : Byte)
  | set3MemIxd (d : Byte)
  | set4MemIxd (d : Byte)
  | set5MemIxd (d : Byte)
  | set6MemIxd (d : Byte)
  | set7MemIxd (d : Byte)
  -- FD CB page, with operand bytes
  | rlcMemIyd (d : Byte)
  | rrcMemIyd (d : Byte)
  | rlMemIyd (d : Byte)
  | rrMemIyd (d : Byte)
  | slaMemIyd (d : Byte)
  | sraMemIyd (d : Byte)
  | srlMemIyd (d : Byte)
  | bit0MemIyd (d : Byte)
  | bit1MemIyd (d : Byte)
  | bit2MemIyd (d : Byte)
  | bit3MemIyd (d : Byte)
  | bit4MemIyd (d : Byte)
  | bit5MemIyd (d : Byte)
  | bit6MemIyd (d : Byte)
  | bit7MemIyd (d : Byte)
  | res0MemIyd (d : Byte)
  | res1MemIyd (d : Byte)
  | res2MemIyd (d : Byte)
  | res3MemIyd (d : Byte)
  | res4MemIyd (d : Byte)
  | res5MemIyd (d : Byte)
  | res6MemIyd (d : Byte)
  | res7MemIyd (d : Byte)
  | set0MemIyd (d : Byte)
  | set1MemIyd (d : Byte)
  | set2MemIyd (d : Byte)
  | set3MemIyd (d : Byte)
  | set4MemIyd (d : Byte)
  | set5MemIyd (d : Byte)
  | set6MemIyd (d : Byte)
  | set7MemIyd (d : Byte)
  -- main page, the opcode alone
  | nop
  | ldMemBcA
  | incBc
  | incB
  | decB
  | rlca
  | exAfAfAlt
  | addHlBc
  | ldAMemBc
  | decBc
  | incC
  | decC
  | rrca
  | ldMemDeA
  | incDe
  | incD
  | decD
  | rla
  | addHlDe
  | ldAMemDe
  | decDe
  | incE
  | decE
  | rra
  | incHl
  | incH
  | decH
  | daa
  | addHlHl
  | decHl
  | incL
  | decL
  | cpl
  | incSp
  | incMemHl
  | decMemHl
  | scf
  | addHlSp
  | decSp
  | incA
  | decA
  | ccf
  | ldBB
  | ldBC
  | ldBD
  | ldBE
  | ldBH
  | ldBL
  | ldBMemHl
  | ldBA
  | ldCB
  | ldCC
  | ldCD
  | ldCE
  | ldCH
  | ldCL
  | ldCMemHl
  | ldCA
  | ldDB
  | ldDC
  | ldDD
  | ldDE
  | ldDH
  | ldDL
  | ldDMemHl
  | ldDA
  | ldEB
  | ldEC
  | ldED
  | ldEE
  | ldEH
  | ldEL
  | ldEMemHl
  | ldEA
  | ldHB
  | ldHC
  | ldHD
  | ldHE
  | ldHH
  | ldHL
  | ldHMemHl
  | ldHA
  | ldLB
  | ldLC
  | ldLD
  | ldLE
  | ldLH
  | ldLL
  | ldLMemHl
  | ldLA
  | ldMemHlB
  | ldMemHlC
  | ldMemHlD
  | ldMemHlE
  | ldMemHlH
  | ldMemHlL
  | halt
  | ldMemHlA
  | ldAB
  | ldAC
  | ldAD
  | ldAE
  | ldAH
  | ldAL
  | ldAMemHl
  | ldAA
  | addAB
  | addAC
  | addAD
  | addAE
  | addAH
  | addAL
  | addAMemHl
  | addAA
  | adcAB
  | adcAC
  | adcAD
  | adcAE
  | adcAH
  | adcAL
  | adcAMemHl
  | adcAA
  | subB
  | subC
  | subD
  | subE
  | subH
  | subL
  | subMemHl
  | subA
  | sbcAB
  | sbcAC
  | sbcAD
  | sbcAE
  | sbcAH
  | sbcAL
  | sbcAMemHl
  | sbcAA
  | andB
  | andC
  | andD
  | andE
  | andH
  | andL
  | andMemHl
  | andA
  | xorB
  | xorC
  | xorD
  | xorE
  | xorH
  | xorL
  | xorMemHl
  | xorA
  | orB
  | orC
  | orD
  | orE
  | orH
  | orL
  | orMemHl
  | orA
  | cpB
  | cpC
  | cpD
  | cpE
  | cpH
  | cpL
  | cpMemHl
  | cpA
  | retNz
  | popBc
  | pushBc
  | rst00
  | retZ
  | ret
  | rst08
  | retNc
  | popDe
  | pushDe
  | rst10
  | retC
  | exx
  | rst18
  | retPo
  | popHl
  | exMemSpHl
  | pushHl
  | rst20
  | retPe
  | jpHl
  | exDeHl
  | rst28
  | retP
  | popAf
  | di
  | pushAf
  | rst30
  | retM
  | ldSpHl
  | ei
  | rst38
  -- CB page, the opcode alone
  | rlcB
  | rlcC
  | rlcD
  | rlcE
  | rlcH
  | rlcL
  | rlcMemHl
  | rlcA
  | rrcB
  | rrcC
  | rrcD
  | rrcE
  | rrcH
  | rrcL
  | rrcMemHl
  | rrcA
  | rlB
  | rlC
  | rlD
  | rlE
  | rlH
  | rlL
  | rlMemHl
  | rlA
  | rrB
  | rrC
  | rrD
  | rrE
  | rrH
  | rrL
  | rrMemHl
  | rrA
  | slaB
  | slaC
  | slaD
  | slaE
  | slaH
  | slaL
  | slaMemHl
  | slaA
  | sraB
  | sraC
  | sraD
  | sraE
  | sraH
  | sraL
  | sraMemHl
  | sraA
  | srlB
  | srlC
  | srlD
  | srlE
  | srlH
  | srlL
  | srlMemHl
  | srlA
  | bit0B
  | bit0C
  | bit0D
  | bit0E
  | bit0H
  | bit0L
  | bit0MemHl
  | bit0A
  | bit1B
  | bit1C
  | bit1D
  | bit1E
  | bit1H
  | bit1L
  | bit1MemHl
  | bit1A
  | bit2B
  | bit2C
  | bit2D
  | bit2E
  | bit2H
  | bit2L
  | bit2MemHl
  | bit2A
  | bit3B
  | bit3C
  | bit3D
  | bit3E
  | bit3H
  | bit3L
  | bit3MemHl
  | bit3A
  | bit4B
  | bit4C
  | bit4D
  | bit4E
  | bit4H
  | bit4L
  | bit4MemHl
  | bit4A
  | bit5B
  | bit5C
  | bit5D
  | bit5E
  | bit5H
  | bit5L
  | bit5MemHl
  | bit5A
  | bit6B
  | bit6C
  | bit6D
  | bit6E
  | bit6H
  | bit6L
  | bit6MemHl
  | bit6A
  | bit7B
  | bit7C
  | bit7D
  | bit7E
  | bit7H
  | bit7L
  | bit7MemHl
  | bit7A
  | res0B
  | res0C
  | res0D
  | res0E
  | res0H
  | res0L
  | res0MemHl
  | res0A
  | res1B
  | res1C
  | res1D
  | res1E
  | res1H
  | res1L
  | res1MemHl
  | res1A
  | res2B
  | res2C
  | res2D
  | res2E
  | res2H
  | res2L
  | res2MemHl
  | res2A
  | res3B
  | res3C
  | res3D
  | res3E
  | res3H
  | res3L
  | res3MemHl
  | res3A
  | res4B
  | res4C
  | res4D
  | res4E
  | res4H
  | res4L
  | res4MemHl
  | res4A
  | res5B
  | res5C
  | res5D
  | res5E
  | res5H
  | res5L
  | res5MemHl
  | res5A
  | res6B
  | res6C
  | res6D
  | res6E
  | res6H
  | res6L
  | res6MemHl
  | res6A
  | res7B
  | res7C
  | res7D
  | res7E
  | res7H
  | res7L
  | res7MemHl
  | res7A
  | set0B
  | set0C
  | set0D
  | set0E
  | set0H
  | set0L
  | set0MemHl
  | set0A
  | set1B
  | set1C
  | set1D
  | set1E
  | set1H
  | set1L
  | set1MemHl
  | set1A
  | set2B
  | set2C
  | set2D
  | set2E
  | set2H
  | set2L
  | set2MemHl
  | set2A
  | set3B
  | set3C
  | set3D
  | set3E
  | set3H
  | set3L
  | set3MemHl
  | set3A
  | set4B
  | set4C
  | set4D
  | set4E
  | set4H
  | set4L
  | set4MemHl
  | set4A
  | set5B
  | set5C
  | set5D
  | set5E
  | set5H
  | set5L
  | set5MemHl
  | set5A
  | set6B
  | set6C
  | set6D
  | set6E
  | set6H
  | set6L
  | set6MemHl
  | set6A
  | set7B
  | set7C
  | set7D
  | set7E
  | set7H
  | set7L
  | set7MemHl
  | set7A
  -- ED page, the opcode alone
  | inBPortC
  | outPortCB
  | sbcHlBc
  | neg
  | retn
  | im0
  | ldIA
  | inCPortC
  | outPortCC
  | adcHlBc
  | reti
  | ldRA
  | inDPortC
  | outPortCD
  | sbcHlDe
  | im1
  | ldAI
  | inEPortC
  | outPortCE
  | adcHlDe
  | im2
  | ldAR
  | inHPortC
  | outPortCH
  | sbcHlHl
  | rrd
  | inLPortC
  | outPortCL
  | adcHlHl
  | rld
  | sbcHlSp
  | inAPortC
  | outPortCA
  | adcHlSp
  | ldi
  | cpi
  | ini
  | outi
  | ldd
  | cpd
  | ind
  | outd
  | ldir
  | cpir
  | inir
  | otir
  | lddr
  | cpdr
  | indr
  | otdr
  | patch
  -- DD page, the opcode alone
  | addIxBc
  | addIxDe
  | incIx
  | addIxIx
  | decIx
  | addIxSp
  | popIx
  | exMemSpIx
  | pushIx
  | jpIx
  | ldSpIx
  -- FD page, the opcode alone
  | addIyBc
  | addIyDe
  | incIy
  | addIyIy
  | decIy
  | addIySp
  | popIy
  | exMemSpIy
  | pushIy
  | jpIy
  | ldSpIy
deriving DecidableEq, Repr

end Sys2Proof
end

