-- ==== Sys2Proof/Decode.lean ====
section
/-! DEFINITION. The decoder (R150 to R164), total on byte lists, and after it the encoder. The decoder reads the fields of
the opcode byte (R152); the encoder is the table, row by row; they are written apart, so that the round trip says that the
two agree. -/

namespace Sys2Proof

/-! ### Bytes and words (R81, R157) -/

/-- `hi ++ lo` (R11). -/
def joinBytes (hi lo : Byte) : Word := hi ++ lo

/-- `v[7:0]`. -/
def lowByte (v : Word) : Byte := v.extractLsb' 0 8

/-- `v[15:8]`. -/
def highByte (v : Word) : Byte := v.extractLsb' 8 8

/-! ### Instructions by field -/


/-- The instructions of R230 that differ in their fields. -/
def Instr.ldPairImm : Pair → Word → Instr
  | .bc, nn => .ldBcNn nn
  | .de, nn => .ldDeNn nn
  | .hl, nn => .ldHlNn nn
  | .sp, nn => .ldSpNn nn

/-- The instructions of R355 that differ in their fields. -/
def Instr.incPair : Pair → Instr
  | .bc => .incBc
  | .de => .incDe
  | .hl => .incHl
  | .sp => .incSp

/-- The instructions of R300 that differ in their fields. -/
def Instr.incReg : Reg8 → Instr
  | .b => .incB
  | .c => .incC
  | .d => .incD
  | .e => .incE
  | .h => .incH
  | .l => .incL
  | .a => .incA

/-- The instructions of R301 that differ in their fields. -/
def Instr.decReg : Reg8 → Instr
  | .b => .decB
  | .c => .decC
  | .d => .decD
  | .e => .decE
  | .h => .decH
  | .l => .decL
  | .a => .decA

/-- The instructions of R201 that differ in their fields. -/
def Instr.ldRegImm : Reg8 → Byte → Instr
  | .b, n => .ldBN n
  | .c, n => .ldCN n
  | .d, n => .ldDN n
  | .e, n => .ldEN n
  | .h, n => .ldHN n
  | .l, n => .ldLN n
  | .a, n => .ldAN n

/-- The instructions of R350 that differ in their fields. -/
def Instr.addHlPair : Pair → Instr
  | .bc => .addHlBc
  | .de => .addHlDe
  | .hl => .addHlHl
  | .sp => .addHlSp

/-- The instructions of R358 that differ in their fields. -/
def Instr.decPair : Pair → Instr
  | .bc => .decBc
  | .de => .decDe
  | .hl => .decHl
  | .sp => .decSp

/-- The instructions of R424 that differ in their fields. -/
def Instr.jrIf : JrCond → Byte → Instr
  | .nz, e => .jrNzE e
  | .z, e => .jrZE e
  | .nc, e => .jrNcE e
  | .c, e => .jrCE e

/-- The instructions of R200 that differ in their fields. -/
def Instr.ldRegReg : Reg8 → Reg8 → Instr
  | .b, .b => .ldBB
  | .b, .c => .ldBC
  | .b, .d => .ldBD
  | .b, .e => .ldBE
  | .b, .h => .ldBH
  | .b, .l => .ldBL
  | .b, .a => .ldBA
  | .c, .b => .ldCB
  | .c, .c => .ldCC
  | .c, .d => .ldCD
  | .c, .e => .ldCE
  | .c, .h => .ldCH
  | .c, .l => .ldCL
  | .c, .a => .ldCA
  | .d, .b => .ldDB
  | .d, .c => .ldDC
  | .d, .d => .ldDD
  | .d, .e => .ldDE
  | .d, .h => .ldDH
  | .d, .l => .ldDL
  | .d, .a => .ldDA
  | .e, .b => .ldEB
  | .e, .c => .ldEC
  | .e, .d => .ldED
  | .e, .e => .ldEE
  | .e, .h => .ldEH
  | .e, .l => .ldEL
  | .e, .a => .ldEA
  | .h, .b => .ldHB
  | .h, .c => .ldHC
  | .h, .d => .ldHD
  | .h, .e => .ldHE
  | .h, .h => .ldHH
  | .h, .l => .ldHL
  | .h, .a => .ldHA
  | .l, .b => .ldLB
  | .l, .c => .ldLC
  | .l, .d => .ldLD
  | .l, .e => .ldLE
  | .l, .h => .ldLH
  | .l, .l => .ldLL
  | .l, .a => .ldLA
  | .a, .b => .ldAB
  | .a, .c => .ldAC
  | .a, .d => .ldAD
  | .a, .e => .ldAE
  | .a, .h => .ldAH
  | .a, .l => .ldAL
  | .a, .a => .ldAA

/-- The instructions of R202 that differ in their fields. -/
def Instr.ldRegMemHl : Reg8 → Instr
  | .b => .ldBMemHl
  | .c => .ldCMemHl
  | .d => .ldDMemHl
  | .e => .ldEMemHl
  | .h => .ldHMemHl
  | .l => .ldLMemHl
  | .a => .ldAMemHl

/-- The instructions of R205 that differ in their fields. -/
def Instr.ldMemHlReg : Reg8 → Instr
  | .b => .ldMemHlB
  | .c => .ldMemHlC
  | .d => .ldMemHlD
  | .e => .ldMemHlE
  | .h => .ldMemHlH
  | .l => .ldMemHlL
  | .a => .ldMemHlA

/-- The instructions of R292, R293, R294, R295, R296, R297, R298, R299 that differ in their fields. -/
def Instr.aluReg : AluOp → Reg8 → Instr
  | .add, .b => .addAB
  | .add, .c => .addAC
  | .add, .d => .addAD
  | .add, .e => .addAE
  | .add, .h => .addAH
  | .add, .l => .addAL
  | .add, .a => .addAA
  | .adc, .b => .adcAB
  | .adc, .c => .adcAC
  | .adc, .d => .adcAD
  | .adc, .e => .adcAE
  | .adc, .h => .adcAH
  | .adc, .l => .adcAL
  | .adc, .a => .adcAA
  | .sub, .b => .subB
  | .sub, .c => .subC
  | .sub, .d => .subD
  | .sub, .e => .subE
  | .sub, .h => .subH
  | .sub, .l => .subL
  | .sub, .a => .subA
  | .sbc, .b => .sbcAB
  | .sbc, .c => .sbcAC
  | .sbc, .d => .sbcAD
  | .sbc, .e => .sbcAE
  | .sbc, .h => .sbcAH
  | .sbc, .l => .sbcAL
  | .sbc, .a => .sbcAA
  | .and, .b => .andB
  | .and, .c => .andC
  | .and, .d => .andD
  | .and, .e => .andE
  | .and, .h => .andH
  | .and, .l => .andL
  | .and, .a => .andA
  | .xor, .b => .xorB
  | .xor, .c => .xorC
  | .xor, .d => .xorD
  | .xor, .e => .xorE
  | .xor, .h => .xorH
  | .xor, .l => .xorL
  | .xor, .a => .xorA
  | .or, .b => .orB
  | .or, .c => .orC
  | .or, .d => .orD
  | .or, .e => .orE
  | .or, .h => .orH
  | .or, .l => .orL
  | .or, .a => .orA
  | .cp, .b => .cpB
  | .cp, .c => .cpC
  | .cp, .d => .cpD
  | .cp, .e => .cpE
  | .cp, .h => .cpH
  | .cp, .l => .cpL
  | .cp, .a => .cpA

/-- The instructions of R292, R293, R294, R295, R296, R297, R298, R299 that differ in their fields. -/
def Instr.aluMemHl : AluOp → Instr
  | .add => .addAMemHl
  | .adc => .adcAMemHl
  | .sub => .subMemHl
  | .sbc => .sbcAMemHl
  | .and => .andMemHl
  | .xor => .xorMemHl
  | .or => .orMemHl
  | .cp => .cpMemHl

/-- The instructions of R432 that differ in their fields. -/
def Instr.retIf : Cond → Instr
  | .nz => .retNz
  | .z => .retZ
  | .nc => .retNc
  | .c => .retC
  | .po => .retPo
  | .pe => .retPe
  | .p => .retP
  | .m => .retM

/-- The instructions of R247 that differ in their fields. -/
def Instr.popPair : PairQ → Instr
  | .bc => .popBc
  | .de => .popDe
  | .hl => .popHl
  | .af => .popAf

/-- The instructions of R422 that differ in their fields. -/
def Instr.jpIf : Cond → Word → Instr
  | .nz, nn => .jpNzNn nn
  | .z, nn => .jpZNn nn
  | .nc, nn => .jpNcNn nn
  | .c, nn => .jpCNn nn
  | .po, nn => .jpPoNn nn
  | .pe, nn => .jpPeNn nn
  | .p, nn => .jpPNn nn
  | .m, nn => .jpMNn nn

/-- The instructions of R430 that differ in their fields. -/
def Instr.callIf : Cond → Word → Instr
  | .nz, nn => .callNzNn nn
  | .z, nn => .callZNn nn
  | .nc, nn => .callNcNn nn
  | .c, nn => .callCNn nn
  | .po, nn => .callPoNn nn
  | .pe, nn => .callPeNn nn
  | .p, nn => .callPNn nn
  | .m, nn => .callMNn nn

/-- The instructions of R244 that differ in their fields. -/
def Instr.pushPair : PairQ → Instr
  | .bc => .pushBc
  | .de => .pushDe
  | .hl => .pushHl
  | .af => .pushAf

/-- The instructions of R292, R293, R294, R295, R296, R297, R298, R299 that differ in their fields. -/
def Instr.aluImm : AluOp → Byte → Instr
  | .add, n => .addAN n
  | .adc, n => .adcAN n
  | .sub, n => .subN n
  | .sbc, n => .sbcAN n
  | .and, n => .andN n
  | .xor, n => .xorN n
  | .or, n => .orN n
  | .cp, n => .cpN n

/-- The instructions of R435 that differ in their fields. -/
def Instr.rst : Fin 8 → Instr
  | 0 => .rst00
  | 1 => .rst08
  | 2 => .rst10
  | 3 => .rst18
  | 4 => .rst20
  | 5 => .rst28
  | 6 => .rst30
  | 7 => .rst38

/-- The instructions of R375, R376, R377, R378, R379, R380, R381 that differ in their fields. -/
def Instr.rotReg : RotOp → Reg8 → Instr
  | .rlc, .b => .rlcB
  | .rlc, .c => .rlcC
  | .rlc, .d => .rlcD
  | .rlc, .e => .rlcE
  | .rlc, .h => .rlcH
  | .rlc, .l => .rlcL
  | .rlc, .a => .rlcA
  | .rrc, .b => .rrcB
  | .rrc, .c => .rrcC
  | .rrc, .d => .rrcD
  | .rrc, .e => .rrcE
  | .rrc, .h => .rrcH
  | .rrc, .l => .rrcL
  | .rrc, .a => .rrcA
  | .rl, .b => .rlB
  | .rl, .c => .rlC
  | .rl, .d => .rlD
  | .rl, .e => .rlE
  | .rl, .h => .rlH
  | .rl, .l => .rlL
  | .rl, .a => .rlA
  | .rr, .b => .rrB
  | .rr, .c => .rrC
  | .rr, .d => .rrD
  | .rr, .e => .rrE
  | .rr, .h => .rrH
  | .rr, .l => .rrL
  | .rr, .a => .rrA
  | .sla, .b => .slaB
  | .sla, .c => .slaC
  | .sla, .d => .slaD
  | .sla, .e => .slaE
  | .sla, .h => .slaH
  | .sla, .l => .slaL
  | .sla, .a => .slaA
  | .sra, .b => .sraB
  | .sra, .c => .sraC
  | .sra, .d => .sraD
  | .sra, .e => .sraE
  | .sra, .h => .sraH
  | .sra, .l => .sraL
  | .sra, .a => .sraA
  | .srl, .b => .srlB
  | .srl, .c => .srlC
  | .srl, .d => .srlD
  | .srl, .e => .srlE
  | .srl, .h => .srlH
  | .srl, .l => .srlL
  | .srl, .a => .srlA

/-- The instructions of R375, R376, R377, R378, R379, R380, R381 that differ in their fields. -/
def Instr.rotMemHl : RotOp → Instr
  | .rlc => .rlcMemHl
  | .rrc => .rrcMemHl
  | .rl => .rlMemHl
  | .rr => .rrMemHl
  | .sla => .slaMemHl
  | .sra => .sraMemHl
  | .srl => .srlMemHl

/-- The instructions of R400 that differ in their fields. -/
def Instr.bitReg : Fin 8 → Reg8 → Instr
  | 0, .b => .bit0B
  | 0, .c => .bit0C
  | 0, .d => .bit0D
  | 0, .e => .bit0E
  | 0, .h => .bit0H
  | 0, .l => .bit0L
  | 0, .a => .bit0A
  | 1, .b => .bit1B
  | 1, .c => .bit1C
  | 1, .d => .bit1D
  | 1, .e => .bit1E
  | 1, .h => .bit1H
  | 1, .l => .bit1L
  | 1, .a => .bit1A
  | 2, .b => .bit2B
  | 2, .c => .bit2C
  | 2, .d => .bit2D
  | 2, .e => .bit2E
  | 2, .h => .bit2H
  | 2, .l => .bit2L
  | 2, .a => .bit2A
  | 3, .b => .bit3B
  | 3, .c => .bit3C
  | 3, .d => .bit3D
  | 3, .e => .bit3E
  | 3, .h => .bit3H
  | 3, .l => .bit3L
  | 3, .a => .bit3A
  | 4, .b => .bit4B
  | 4, .c => .bit4C
  | 4, .d => .bit4D
  | 4, .e => .bit4E
  | 4, .h => .bit4H
  | 4, .l => .bit4L
  | 4, .a => .bit4A
  | 5, .b => .bit5B
  | 5, .c => .bit5C
  | 5, .d => .bit5D
  | 5, .e => .bit5E
  | 5, .h => .bit5H
  | 5, .l => .bit5L
  | 5, .a => .bit5A
  | 6, .b => .bit6B
  | 6, .c => .bit6C
  | 6, .d => .bit6D
  | 6, .e => .bit6E
  | 6, .h => .bit6H
  | 6, .l => .bit6L
  | 6, .a => .bit6A
  | 7, .b => .bit7B
  | 7, .c => .bit7C
  | 7, .d => .bit7D
  | 7, .e => .bit7E
  | 7, .h => .bit7H
  | 7, .l => .bit7L
  | 7, .a => .bit7A

/-- The instructions of R400 that differ in their fields. -/
def Instr.bitMemHl : Fin 8 → Instr
  | 0 => .bit0MemHl
  | 1 => .bit1MemHl
  | 2 => .bit2MemHl
  | 3 => .bit3MemHl
  | 4 => .bit4MemHl
  | 5 => .bit5MemHl
  | 6 => .bit6MemHl
  | 7 => .bit7MemHl

/-- The instructions of R402 that differ in their fields. -/
def Instr.resReg : Fin 8 → Reg8 → Instr
  | 0, .b => .res0B
  | 0, .c => .res0C
  | 0, .d => .res0D
  | 0, .e => .res0E
  | 0, .h => .res0H
  | 0, .l => .res0L
  | 0, .a => .res0A
  | 1, .b => .res1B
  | 1, .c => .res1C
  | 1, .d => .res1D
  | 1, .e => .res1E
  | 1, .h => .res1H
  | 1, .l => .res1L
  | 1, .a => .res1A
  | 2, .b => .res2B
  | 2, .c => .res2C
  | 2, .d => .res2D
  | 2, .e => .res2E
  | 2, .h => .res2H
  | 2, .l => .res2L
  | 2, .a => .res2A
  | 3, .b => .res3B
  | 3, .c => .res3C
  | 3, .d => .res3D
  | 3, .e => .res3E
  | 3, .h => .res3H
  | 3, .l => .res3L
  | 3, .a => .res3A
  | 4, .b => .res4B
  | 4, .c => .res4C
  | 4, .d => .res4D
  | 4, .e => .res4E
  | 4, .h => .res4H
  | 4, .l => .res4L
  | 4, .a => .res4A
  | 5, .b => .res5B
  | 5, .c => .res5C
  | 5, .d => .res5D
  | 5, .e => .res5E
  | 5, .h => .res5H
  | 5, .l => .res5L
  | 5, .a => .res5A
  | 6, .b => .res6B
  | 6, .c => .res6C
  | 6, .d => .res6D
  | 6, .e => .res6E
  | 6, .h => .res6H
  | 6, .l => .res6L
  | 6, .a => .res6A
  | 7, .b => .res7B
  | 7, .c => .res7C
  | 7, .d => .res7D
  | 7, .e => .res7E
  | 7, .h => .res7H
  | 7, .l => .res7L
  | 7, .a => .res7A

/-- The instructions of R402 that differ in their fields. -/
def Instr.resMemHl : Fin 8 → Instr
  | 0 => .res0MemHl
  | 1 => .res1MemHl
  | 2 => .res2MemHl
  | 3 => .res3MemHl
  | 4 => .res4MemHl
  | 5 => .res5MemHl
  | 6 => .res6MemHl
  | 7 => .res7MemHl

/-- The instructions of R401 that differ in their fields. -/
def Instr.setReg : Fin 8 → Reg8 → Instr
  | 0, .b => .set0B
  | 0, .c => .set0C
  | 0, .d => .set0D
  | 0, .e => .set0E
  | 0, .h => .set0H
  | 0, .l => .set0L
  | 0, .a => .set0A
  | 1, .b => .set1B
  | 1, .c => .set1C
  | 1, .d => .set1D
  | 1, .e => .set1E
  | 1, .h => .set1H
  | 1, .l => .set1L
  | 1, .a => .set1A
  | 2, .b => .set2B
  | 2, .c => .set2C
  | 2, .d => .set2D
  | 2, .e => .set2E
  | 2, .h => .set2H
  | 2, .l => .set2L
  | 2, .a => .set2A
  | 3, .b => .set3B
  | 3, .c => .set3C
  | 3, .d => .set3D
  | 3, .e => .set3E
  | 3, .h => .set3H
  | 3, .l => .set3L
  | 3, .a => .set3A
  | 4, .b => .set4B
  | 4, .c => .set4C
  | 4, .d => .set4D
  | 4, .e => .set4E
  | 4, .h => .set4H
  | 4, .l => .set4L
  | 4, .a => .set4A
  | 5, .b => .set5B
  | 5, .c => .set5C
  | 5, .d => .set5D
  | 5, .e => .set5E
  | 5, .h => .set5H
  | 5, .l => .set5L
  | 5, .a => .set5A
  | 6, .b => .set6B
  | 6, .c => .set6C
  | 6, .d => .set6D
  | 6, .e => .set6E
  | 6, .h => .set6H
  | 6, .l => .set6L
  | 6, .a => .set6A
  | 7, .b => .set7B
  | 7, .c => .set7C
  | 7, .d => .set7D
  | 7, .e => .set7E
  | 7, .h => .set7H
  | 7, .l => .set7L
  | 7, .a => .set7A

/-- The instructions of R401 that differ in their fields. -/
def Instr.setMemHl : Fin 8 → Instr
  | 0 => .set0MemHl
  | 1 => .set1MemHl
  | 2 => .set2MemHl
  | 3 => .set3MemHl
  | 4 => .set4MemHl
  | 5 => .set5MemHl
  | 6 => .set6MemHl
  | 7 => .set7MemHl

/-- The instructions of R461 that differ in their fields. -/
def Instr.inRegPortC : Reg8 → Instr
  | .b => .inBPortC
  | .c => .inCPortC
  | .d => .inDPortC
  | .e => .inEPortC
  | .h => .inHPortC
  | .l => .inLPortC
  | .a => .inAPortC

/-- The instructions of R467 that differ in their fields. -/
def Instr.outPortCReg : Reg8 → Instr
  | .b => .outPortCB
  | .c => .outPortCC
  | .d => .outPortCD
  | .e => .outPortCE
  | .h => .outPortCH
  | .l => .outPortCL
  | .a => .outPortCA

/-- The instructions of R352 that differ in their fields. -/
def Instr.sbcHlPair : Pair → Instr
  | .bc => .sbcHlBc
  | .de => .sbcHlDe
  | .hl => .sbcHlHl
  | .sp => .sbcHlSp

/-- The instructions of R238 that differ in their fields. -/
def Instr.ldMemPair : Pair → Word → Instr
  | .bc, nn => .ldMemNnBc nn
  | .de, nn => .ldMemNnDe nn
  | .hl, nn => .ldMemNnHlEd nn
  | .sp, nn => .ldMemNnSp nn

/-- The instructions of R351 that differ in their fields. -/
def Instr.adcHlPair : Pair → Instr
  | .bc => .adcHlBc
  | .de => .adcHlDe
  | .hl => .adcHlHl
  | .sp => .adcHlSp

/-- The instructions of R234 that differ in their fields. -/
def Instr.ldPairMem : Pair → Word → Instr
  | .bc, nn => .ldBcMemNn nn
  | .de, nn => .ldDeMemNn nn
  | .hl, nn => .ldHlMemNnEd nn
  | .sp, nn => .ldSpMemNn nn

/-- The instructions of R353, R354 that differ in their fields. -/
def Instr.addIndexPair : IndexReg → Pair → Instr
  | .ix, .bc => .addIxBc
  | .ix, .de => .addIxDe
  | .ix, .hl => .addIxIx
  | .ix, .sp => .addIxSp
  | .iy, .bc => .addIyBc
  | .iy, .de => .addIyDe
  | .iy, .hl => .addIyIy
  | .iy, .sp => .addIySp

/-- The instructions of R231, R232 that differ in their fields. -/
def Instr.ldIndexImm : IndexReg → Word → Instr
  | .ix, nn => .ldIxNn nn
  | .iy, nn => .ldIyNn nn

/-- The instructions of R239, R240 that differ in their fields. -/
def Instr.ldMemIndex : IndexReg → Word → Instr
  | .ix, nn => .ldMemNnIx nn
  | .iy, nn => .ldMemNnIy nn

/-- The instructions of R356, R357 that differ in their fields. -/
def Instr.incIndex : IndexReg → Instr
  | .ix => .incIx
  | .iy => .incIy

/-- The instructions of R235, R236 that differ in their fields. -/
def Instr.ldIndexMem : IndexReg → Word → Instr
  | .ix, nn => .ldIxMemNn nn
  | .iy, nn => .ldIyMemNn nn

/-- The instructions of R359, R360 that differ in their fields. -/
def Instr.decIndex : IndexReg → Instr
  | .ix => .decIx
  | .iy => .decIy

/-- The instructions of R300 that differ in their fields. -/
def Instr.incIndexed : IndexReg → Byte → Instr
  | .ix, d => .incMemIxd d
  | .iy, d => .incMemIyd d

/-- The instructions of R301 that differ in their fields. -/
def Instr.decIndexed : IndexReg → Byte → Instr
  | .ix, d => .decMemIxd d
  | .iy, d => .decMemIyd d

/-- The instructions of R209, R210 that differ in their fields. -/
def Instr.ldIndexedImm : IndexReg → Byte → Byte → Instr
  | .ix, d, n => .ldMemIxdN d n
  | .iy, d, n => .ldMemIydN d n

/-- The instructions of R203, R204 that differ in their fields. -/
def Instr.ldRegIndexed : IndexReg → Reg8 → Byte → Instr
  | .ix, .b, d => .ldBMemIxd d
  | .ix, .c, d => .ldCMemIxd d
  | .ix, .d, d => .ldDMemIxd d
  | .ix, .e, d => .ldEMemIxd d
  | .ix, .h, d => .ldHMemIxd d
  | .ix, .l, d => .ldLMemIxd d
  | .ix, .a, d => .ldAMemIxd d
  | .iy, .b, d => .ldBMemIyd d
  | .iy, .c, d => .ldCMemIyd d
  | .iy, .d, d => .ldDMemIyd d
  | .iy, .e, d => .ldEMemIyd d
  | .iy, .h, d => .ldHMemIyd d
  | .iy, .l, d => .ldLMemIyd d
  | .iy, .a, d => .ldAMemIyd d

/-- The instructions of R206, R207 that differ in their fields. -/
def Instr.ldIndexedReg : IndexReg → Reg8 → Byte → Instr
  | .ix, .b, d => .ldMemIxdB d
  | .ix, .c, d => .ldMemIxdC d
  | .ix, .d, d => .ldMemIxdD d
  | .ix, .e, d => .ldMemIxdE d
  | .ix, .h, d => .ldMemIxdH d
  | .ix, .l, d => .ldMemIxdL d
  | .ix, .a, d => .ldMemIxdA d
  | .iy, .b, d => .ldMemIydB d
  | .iy, .c, d => .ldMemIydC d
  | .iy, .d, d => .ldMemIydD d
  | .iy, .e, d => .ldMemIydE d
  | .iy, .h, d => .ldMemIydH d
  | .iy, .l, d => .ldMemIydL d
  | .iy, .a, d => .ldMemIydA d

/-- The instructions of R292, R293, R294, R295, R296, R297, R298, R299 that differ in their fields. -/
def Instr.aluIndexed : IndexReg → AluOp → Byte → Instr
  | .ix, .add, d => .addAMemIxd d
  | .ix, .adc, d => .adcAMemIxd d
  | .ix, .sub, d => .subMemIxd d
  | .ix, .sbc, d => .sbcAMemIxd d
  | .ix, .and, d => .andMemIxd d
  | .ix, .xor, d => .xorMemIxd d
  | .ix, .or, d => .orMemIxd d
  | .ix, .cp, d => .cpMemIxd d
  | .iy, .add, d => .addAMemIyd d
  | .iy, .adc, d => .adcAMemIyd d
  | .iy, .sub, d => .subMemIyd d
  | .iy, .sbc, d => .sbcAMemIyd d
  | .iy, .and, d => .andMemIyd d
  | .iy, .xor, d => .xorMemIyd d
  | .iy, .or, d => .orMemIyd d
  | .iy, .cp, d => .cpMemIyd d

/-- The instructions of R248, R249 that differ in their fields. -/
def Instr.popIndex : IndexReg → Instr
  | .ix => .popIx
  | .iy => .popIy

/-- The instructions of R264, R265 that differ in their fields. -/
def Instr.exMemSpIndex : IndexReg → Instr
  | .ix => .exMemSpIx
  | .iy => .exMemSpIy

/-- The instructions of R245, R246 that differ in their fields. -/
def Instr.pushIndex : IndexReg → Instr
  | .ix => .pushIx
  | .iy => .pushIy

/-- The instructions of R426, R427 that differ in their fields. -/
def Instr.jpIndex : IndexReg → Instr
  | .ix => .jpIx
  | .iy => .jpIy

/-- The instructions of R242, R243 that differ in their fields. -/
def Instr.ldSpIndex : IndexReg → Instr
  | .ix => .ldSpIx
  | .iy => .ldSpIy

/-- The instructions of R375, R376, R377, R378, R379, R380, R381 that differ in their fields. -/
def Instr.rotIndexed : IndexReg → RotOp → Byte → Instr
  | .ix, .rlc, d => .rlcMemIxd d
  | .ix, .rrc, d => .rrcMemIxd d
  | .ix, .rl, d => .rlMemIxd d
  | .ix, .rr, d => .rrMemIxd d
  | .ix, .sla, d => .slaMemIxd d
  | .ix, .sra, d => .sraMemIxd d
  | .ix, .srl, d => .srlMemIxd d
  | .iy, .rlc, d => .rlcMemIyd d
  | .iy, .rrc, d => .rrcMemIyd d
  | .iy, .rl, d => .rlMemIyd d
  | .iy, .rr, d => .rrMemIyd d
  | .iy, .sla, d => .slaMemIyd d
  | .iy, .sra, d => .sraMemIyd d
  | .iy, .srl, d => .srlMemIyd d

/-- The instructions of R400 that differ in their fields. -/
def Instr.bitIndexed : IndexReg → Fin 8 → Byte → Instr
  | .ix, 0, d => .bit0MemIxd d
  | .ix, 1, d => .bit1MemIxd d
  | .ix, 2, d => .bit2MemIxd d
  | .ix, 3, d => .bit3MemIxd d
  | .ix, 4, d => .bit4MemIxd d
  | .ix, 5, d => .bit5MemIxd d
  | .ix, 6, d => .bit6MemIxd d
  | .ix, 7, d => .bit7MemIxd d
  | .iy, 0, d => .bit0MemIyd d
  | .iy, 1, d => .bit1MemIyd d
  | .iy, 2, d => .bit2MemIyd d
  | .iy, 3, d => .bit3MemIyd d
  | .iy, 4, d => .bit4MemIyd d
  | .iy, 5, d => .bit5MemIyd d
  | .iy, 6, d => .bit6MemIyd d
  | .iy, 7, d => .bit7MemIyd d

/-- The instructions of R402 that differ in their fields. -/
def Instr.resIndexed : IndexReg → Fin 8 → Byte → Instr
  | .ix, 0, d => .res0MemIxd d
  | .ix, 1, d => .res1MemIxd d
  | .ix, 2, d => .res2MemIxd d
  | .ix, 3, d => .res3MemIxd d
  | .ix, 4, d => .res4MemIxd d
  | .ix, 5, d => .res5MemIxd d
  | .ix, 6, d => .res6MemIxd d
  | .ix, 7, d => .res7MemIxd d
  | .iy, 0, d => .res0MemIyd d
  | .iy, 1, d => .res1MemIyd d
  | .iy, 2, d => .res2MemIyd d
  | .iy, 3, d => .res3MemIyd d
  | .iy, 4, d => .res4MemIyd d
  | .iy, 5, d => .res5MemIyd d
  | .iy, 6, d => .res6MemIyd d
  | .iy, 7, d => .res7MemIyd d

/-- The instructions of R401 that differ in their fields. -/
def Instr.setIndexed : IndexReg → Fin 8 → Byte → Instr
  | .ix, 0, d => .set0MemIxd d
  | .ix, 1, d => .set1MemIxd d
  | .ix, 2, d => .set2MemIxd d
  | .ix, 3, d => .set3MemIxd d
  | .ix, 4, d => .set4MemIxd d
  | .ix, 5, d => .set5MemIxd d
  | .ix, 6, d => .set6MemIxd d
  | .ix, 7, d => .set7MemIxd d
  | .iy, 0, d => .set0MemIyd d
  | .iy, 1, d => .set1MemIyd d
  | .iy, 2, d => .set2MemIyd d
  | .iy, 3, d => .set3MemIyd d
  | .iy, 4, d => .set4MemIyd d
  | .iy, 5, d => .set5MemIyd d
  | .iy, 6, d => .set6MemIyd d
  | .iy, 7, d => .set7MemIyd d

/-! ### Fields of the opcode byte (R152 to R156) -/

/-- `x = op[7:6]`. -/
def fieldX (op : Byte) : Nat := op.toNat / 64

/-- `y = op[5:3]`. -/
def fieldY (op : Byte) : Nat := op.toNat / 8 % 8

/-- `z = op[2:0]`. -/
def fieldZ (op : Byte) : Nat := op.toNat % 8

/-- `r[k]`; `none` stands for `(HL)`, `k = 6` (R153). -/
def regField (k : Nat) : Option Reg8 :=
  match k with
  | 0 => some .b
  | 1 => some .c
  | 2 => some .d
  | 3 => some .e
  | 4 => some .h
  | 5 => some .l
  | 6 => none
  | _ => some .a

/-- `rp[p]` (R154). -/
def pairField (p : Nat) : Pair :=
  match p with
  | 0 => .bc
  | 1 => .de
  | 2 => .hl
  | _ => .sp

/-- `rp2[p]` (R154). -/
def pairQField (p : Nat) : PairQ :=
  match p with
  | 0 => .bc
  | 1 => .de
  | 2 => .hl
  | _ => .af

/-- `cc[y]` (R155). -/
def condField (y : Nat) : Cond :=
  match y with
  | 0 => .nz
  | 1 => .z
  | 2 => .nc
  | 3 => .c
  | 4 => .po
  | 5 => .pe
  | 6 => .p
  | _ => .m

/-- The condition of `JR cc,e`: `cc = y - 4` (R155). -/
def jrCondField (y : Nat) : JrCond :=
  match y with
  | 4 => .nz
  | 5 => .z
  | 6 => .nc
  | _ => .c

/-- `alu[y]` (R156). -/
def aluField (y : Nat) : AluOp :=
  match y with
  | 0 => .add
  | 1 => .adc
  | 2 => .sub
  | 3 => .sbc
  | 4 => .and
  | 5 => .xor
  | 6 => .or
  | _ => .cp

/-- `rot[y]`; `none` is the undocumented `y = 6` (R156, R160). -/
def rotField (y : Nat) : Option RotOp :=
  match y with
  | 0 => some .rlc
  | 1 => some .rrc
  | 2 => some .rl
  | 3 => some .rr
  | 4 => some .sla
  | 5 => some .sra
  | 6 => none
  | _ => some .srl

/-- The bit number `y` of `BIT`, `SET` and `RES`, or the target number of `RST`. -/
def bitField (y : Nat) : Fin 8 := Fin.ofNat 8 y

/-! ### The decoder (R164) -/

/-- Why the decoder gives no instruction. -/
inductive DecodeError where
  /-- An undocumented encoding, with the bytes read (R162). -/
  | undocumented (bytes : List Byte)
  /-- The list ends inside an instruction. Never so in the machine, which reads four bytes. -/
  | truncated
deriving DecidableEq, Repr

/-- The instruction with the bytes that follow it, or the reason there is none. -/
abbrev DecodeResult := Except DecodeError (Instr × List Byte)

/-- An instruction without further bytes. -/
def plain (i : Instr) (t : List Byte) : DecodeResult := .ok (i, t)

/-- An instruction with one operand byte. -/
def withByte (f : Byte → Instr) (t : List Byte) : DecodeResult :=
  match t with
  | n :: t => .ok (f n, t)
  | [] => .error .truncated

/-- An instruction with a 16-bit operand, low byte first (R157). -/
def withWord (f : Word → Instr) (t : List Byte) : DecodeResult :=
  match t with
  | lo :: hi :: t => .ok (f (joinBytes hi lo), t)
  | _ => .error .truncated

/-- An instruction with two operand bytes. -/
def withTwo (f : Byte → Byte → Instr) (t : List Byte) : DecodeResult :=
  match t with
  | m :: n :: t => .ok (f m n, t)
  | _ => .error .truncated

/-- The main page with `x = 0`. -/
def decodeMain0 (y z : Nat) (t : List Byte) : DecodeResult :=
  match z, y with
  | 0, 0 => plain .nop t
  | 0, 1 => plain .exAfAfAlt t
  | 0, 2 => withByte .djnzE t
  | 0, 3 => withByte .jrE t
  | 0, y => withByte (.jrIf (jrCondField y)) t
  | 1, y => if y % 2 = 0 then withWord (.ldPairImm (pairField (y / 2))) t else plain (.addHlPair (pairField (y / 2))) t
  | 2, 0 => plain .ldMemBcA t
  | 2, 1 => plain .ldAMemBc t
  | 2, 2 => plain .ldMemDeA t
  | 2, 3 => plain .ldAMemDe t
  | 2, 4 => withWord .ldMemNnHl t
  | 2, 5 => withWord .ldHlMemNn t
  | 2, 6 => withWord .ldMemNnA t
  | 2, _ => withWord .ldAMemNn t
  | 3, y => if y % 2 = 0 then plain (.incPair (pairField (y / 2))) t else plain (.decPair (pairField (y / 2))) t
  | 4, y =>
    match regField y with
    | some r => plain (.incReg r) t
    | none => plain .incMemHl t
  | 5, y =>
    match regField y with
    | some r => plain (.decReg r) t
    | none => plain .decMemHl t
  | 6, y =>
    match regField y with
    | some r => withByte (.ldRegImm r) t
    | none => withByte .ldMemHlN t
  | _, 0 => plain .rlca t
  | _, 1 => plain .rrca t
  | _, 2 => plain .rla t
  | _, 3 => plain .rra t
  | _, 4 => plain .daa t
  | _, 5 => plain .cpl t
  | _, 6 => plain .scf t
  | _, _ => plain .ccf t

/-- The main page with `x = 1`: the loads between registers and `(HL)`, and `HALT`. -/
def decodeMain1 (y z : Nat) (t : List Byte) : DecodeResult :=
  match regField y, regField z with
  | some r, some r' => plain (.ldRegReg r r') t
  | some r, none => plain (.ldRegMemHl r) t
  | none, some r => plain (.ldMemHlReg r) t
  | none, none => plain .halt t

/-- The main page with `x = 2`: the 8-bit operations on `A`. -/
def decodeMain2 (y z : Nat) (t : List Byte) : DecodeResult :=
  match regField z with
  | some r => plain (.aluReg (aluField y) r) t
  | none => plain (.aluMemHl (aluField y)) t

/-- The main page with `x = 3`, the prefixes apart. -/
def decodeMain3 (y z : Nat) (t : List Byte) : DecodeResult :=
  match z, y with
  | 0, y => plain (.retIf (condField y)) t
  | 1, 1 => plain .ret t
  | 1, 3 => plain .exx t
  | 1, 5 => plain .jpHl t
  | 1, 7 => plain .ldSpHl t
  | 1, y => plain (.popPair (pairQField (y / 2))) t
  | 2, y => withWord (.jpIf (condField y)) t
  | 3, 0 => withWord .jpNn t
  | 3, 2 => withByte .outPortNA t
  | 3, 3 => withByte .inAPortN t
  | 3, 4 => plain .exMemSpHl t
  | 3, 5 => plain .exDeHl t
  | 3, 6 => plain .di t
  | 3, _ => plain .ei t
  | 4, y => withWord (.callIf (condField y)) t
  | 5, y => if y = 1 then withWord .callNn t else plain (.pushPair (pairQField (y / 2))) t
  | 6, y => withByte (.aluImm (aluField y)) t
  | _, y => plain (.rst (bitField y)) t

/-- The main page, the prefixes apart. -/
def decodeMain (op : Byte) (t : List Byte) : DecodeResult :=
  match fieldX op with
  | 0 => decodeMain0 (fieldY op) (fieldZ op) t
  | 1 => decodeMain1 (fieldY op) (fieldZ op) t
  | 2 => decodeMain2 (fieldY op) (fieldZ op) t
  | _ => decodeMain3 (fieldY op) (fieldZ op) t

/-- The CB page (R160). -/
def decodeCb (op : Byte) (t : List Byte) : DecodeResult :=
  let y := fieldY op
  match fieldX op, regField (fieldZ op) with
  | 0, r =>
    match rotField y, r with
    | some k, some r => plain (.rotReg k r) t
    | some k, none => plain (.rotMemHl k) t
    | none, _ => .error (.undocumented [0xCB, op])
  | 1, some r => plain (.bitReg (bitField y) r) t
  | 1, none => plain (.bitMemHl (bitField y)) t
  | 2, some r => plain (.resReg (bitField y) r) t
  | 2, none => plain (.resMemHl (bitField y)) t
  | _, some r => plain (.setReg (bitField y) r) t
  | _, none => plain (.setMemHl (bitField y)) t

/-- The ED page with `x = 1` (R161). -/
def decodeEd1 (op : Byte) (t : List Byte) : DecodeResult :=
  let y := fieldY op
  match fieldZ op, y with
  | 0, y =>
    match regField y with
    | some r => plain (.inRegPortC r) t
    | none => .error (.undocumented [0xED, op])
  | 1, y =>
    match regField y with
    | some r => plain (.outPortCReg r) t
    | none => .error (.undocumented [0xED, op])
  | 2, y => if y % 2 = 0 then plain (.sbcHlPair (pairField (y / 2))) t else plain (.adcHlPair (pairField (y / 2))) t
  | 3, y => if y % 2 = 0 then withWord (.ldMemPair (pairField (y / 2))) t else withWord (.ldPairMem (pairField (y / 2))) t
  | 4, 0 => plain .neg t
  | 5, 0 => plain .retn t
  | 5, 1 => plain .reti t
  | 6, 0 => plain .im0 t
  | 6, 2 => plain .im1 t
  | 6, 3 => plain .im2 t
  | 7, 0 => plain .ldIA t
  | 7, 1 => plain .ldRA t
  | 7, 2 => plain .ldAI t
  | 7, 3 => plain .ldAR t
  | 7, 4 => plain .rrd t
  | 7, 5 => plain .rld t
  | _, _ => .error (.undocumented [0xED, op])

/-- The block instructions of the ED page, `x = 2` (R161). -/
def decodeEd2 (op : Byte) (t : List Byte) : DecodeResult :=
  match fieldY op, fieldZ op with
  | 4, 0 => plain .ldi t
  | 4, 1 => plain .cpi t
  | 4, 2 => plain .ini t
  | 4, 3 => plain .outi t
  | 5, 0 => plain .ldd t
  | 5, 1 => plain .cpd t
  | 5, 2 => plain .ind t
  | 5, 3 => plain .outd t
  | 6, 0 => plain .ldir t
  | 6, 1 => plain .cpir t
  | 6, 2 => plain .inir t
  | 6, 3 => plain .otir t
  | 7, 0 => plain .lddr t
  | 7, 1 => plain .cpdr t
  | 7, 2 => plain .indr t
  | 7, 3 => plain .otdr t
  | _, _ => .error (.undocumented [0xED, op])

/-- The ED page (R161), with the host trap `ED FE` (R163). -/
def decodeEd (op : Byte) (t : List Byte) : DecodeResult :=
  match fieldX op with
  | 1 => decodeEd1 op t
  | 2 => decodeEd2 op t
  | _ => if op = 0xFE then plain .patch t else .error (.undocumented [0xED, op])

/-- The byte of a DD or FD prefix. -/
def prefixByte (x : IndexReg) : Byte :=
  match x with
  | .ix => 0xDD
  | .iy => 0xFD

/-- The DD or FD page with `x = 0` of the opcode byte (R158). -/
def decodeIndex0 (x : IndexReg) (op : Byte) (t : List Byte) : DecodeResult :=
  match fieldZ op, fieldY op with
  | 1, 4 => withWord (.ldIndexImm x) t
  | 2, 4 => withWord (.ldMemIndex x) t
  | 2, 5 => withWord (.ldIndexMem x) t
  | 3, 4 => plain (.incIndex x) t
  | 3, 5 => plain (.decIndex x) t
  | 4, 6 => withByte (.incIndexed x) t
  | 5, 6 => withByte (.decIndexed x) t
  | 6, 6 => withTwo (.ldIndexedImm x) t
  | 1, y => if y % 2 = 1 then plain (.addIndexPair x (pairField (y / 2))) t else .error (.undocumented [prefixByte x, op])
  | _, _ => .error (.undocumented [prefixByte x, op])

/-- The DD or FD page with `x = 1` of the opcode byte: the loads with `(IX+d)` or `(IY+d)` (R158). -/
def decodeIndex1 (x : IndexReg) (op : Byte) (t : List Byte) : DecodeResult :=
  match regField (fieldY op), regField (fieldZ op) with
  | some r, none => withByte (.ldRegIndexed x r) t
  | none, some r => withByte (.ldIndexedReg x r) t
  | _, _ => .error (.undocumented [prefixByte x, op])

/-- The DD or FD page with `x = 2` of the opcode byte: the operations on `A` with `(IX+d)` or `(IY+d)` (R158). -/
def decodeIndex2 (x : IndexReg) (op : Byte) (t : List Byte) : DecodeResult :=
  match regField (fieldZ op) with
  | none => withByte (.aluIndexed x (aluField (fieldY op))) t
  | some _ => .error (.undocumented [prefixByte x, op])

/-- The DD or FD page with `x = 3` of the opcode byte (R158). -/
def decodeIndex3 (x : IndexReg) (op : Byte) (t : List Byte) : DecodeResult :=
  match fieldZ op, fieldY op with
  | 1, 4 => plain (.popIndex x) t
  | 1, 5 => plain (.jpIndex x) t
  | 1, 7 => plain (.ldSpIndex x) t
  | 3, 4 => plain (.exMemSpIndex x) t
  | 5, 4 => plain (.pushIndex x) t
  | _, _ => .error (.undocumented [prefixByte x, op])

/-- The DD CB and FD CB forms, with displacement `d` (R159). -/
def decodeIndexCb (x : IndexReg) (d op : Byte) (t : List Byte) : DecodeResult :=
  let y := fieldY op
  match regField (fieldZ op), fieldX op with
  | none, 0 =>
    match rotField y with
    | some k => plain (.rotIndexed x k d) t
    | none => .error (.undocumented [prefixByte x, 0xCB, d, op])
  | none, 1 => plain (.bitIndexed x (bitField y) d) t
  | none, 2 => plain (.resIndexed x (bitField y) d) t
  | none, _ => plain (.setIndexed x (bitField y) d) t
  | some _, _ => .error (.undocumented [prefixByte x, 0xCB, d, op])

/-- What follows a DD or FD prefix (R158, R159). -/
def decodeIndex (x : IndexReg) (t : List Byte) : DecodeResult :=
  match t with
  | [] => .error .truncated
  | op :: t =>
    if op = 0xCB then
      match t with
      | d :: op :: t => decodeIndexCb x d op t
      | _ => .error .truncated
    else
      match fieldX op with
      | 0 => decodeIndex0 x op t
      | 1 => decodeIndex1 x op t
      | 2 => decodeIndex2 x op t
      | _ => decodeIndex3 x op t

/-- The decoder (R164): the instruction at the head of a list of bytes with the rest of the list. -/
def decode (bytes : List Byte) : DecodeResult :=
  match bytes with
  | [] => .error .truncated
  | op :: t =>
    if op = 0xCB then
      match t with
      | [] => .error .truncated
      | op :: t => decodeCb op t
    else if op = 0xED then
      match t with
      | [] => .error .truncated
      | op :: t => decodeEd op t
    else if op = 0xDD then decodeIndex .ix t
    else if op = 0xFD then decodeIndex .iy t
    else decodeMain op t

/-! ### The encoder -/


/-- The bytes of an instruction, first byte first: its row of the encoding tables (R150 to R163). -/
def encode (i : Instr) : List Byte :=
  match i with
  | .nop => [0x00]
  | .ldBcNn nn => [0x01, lowByte nn, highByte nn]
  | .ldMemBcA => [0x02]
  | .incBc => [0x03]
  | .incB => [0x04]
  | .decB => [0x05]
  | .ldBN n => [0x06, n]
  | .rlca => [0x07]
  | .exAfAfAlt => [0x08]
  | .addHlBc => [0x09]
  | .ldAMemBc => [0x0A]
  | .decBc => [0x0B]
  | .incC => [0x0C]
  | .decC => [0x0D]
  | .ldCN n => [0x0E, n]
  | .rrca => [0x0F]
  | .djnzE e => [0x10, e]
  | .ldDeNn nn => [0x11, lowByte nn, highByte nn]
  | .ldMemDeA => [0x12]
  | .incDe => [0x13]
  | .incD => [0x14]
  | .decD => [0x15]
  | .ldDN n => [0x16, n]
  | .rla => [0x17]
  | .jrE e => [0x18, e]
  | .addHlDe => [0x19]
  | .ldAMemDe => [0x1A]
  | .decDe => [0x1B]
  | .incE => [0x1C]
  | .decE => [0x1D]
  | .ldEN n => [0x1E, n]
  | .rra => [0x1F]
  | .jrNzE e => [0x20, e]
  | .ldHlNn nn => [0x21, lowByte nn, highByte nn]
  | .ldMemNnHl nn => [0x22, lowByte nn, highByte nn]
  | .incHl => [0x23]
  | .incH => [0x24]
  | .decH => [0x25]
  | .ldHN n => [0x26, n]
  | .daa => [0x27]
  | .jrZE e => [0x28, e]
  | .addHlHl => [0x29]
  | .ldHlMemNn nn => [0x2A, lowByte nn, highByte nn]
  | .decHl => [0x2B]
  | .incL => [0x2C]
  | .decL => [0x2D]
  | .ldLN n => [0x2E, n]
  | .cpl => [0x2F]
  | .jrNcE e => [0x30, e]
  | .ldSpNn nn => [0x31, lowByte nn, highByte nn]
  | .ldMemNnA nn => [0x32, lowByte nn, highByte nn]
  | .incSp => [0x33]
  | .incMemHl => [0x34]
  | .decMemHl => [0x35]
  | .ldMemHlN n => [0x36, n]
  | .scf => [0x37]
  | .jrCE e => [0x38, e]
  | .addHlSp => [0x39]
  | .ldAMemNn nn => [0x3A, lowByte nn, highByte nn]
  | .decSp => [0x3B]
  | .incA => [0x3C]
  | .decA => [0x3D]
  | .ldAN n => [0x3E, n]
  | .ccf => [0x3F]
  | .ldBB => [0x40]
  | .ldBC => [0x41]
  | .ldBD => [0x42]
  | .ldBE => [0x43]
  | .ldBH => [0x44]
  | .ldBL => [0x45]
  | .ldBMemHl => [0x46]
  | .ldBA => [0x47]
  | .ldCB => [0x48]
  | .ldCC => [0x49]
  | .ldCD => [0x4A]
  | .ldCE => [0x4B]
  | .ldCH => [0x4C]
  | .ldCL => [0x4D]
  | .ldCMemHl => [0x4E]
  | .ldCA => [0x4F]
  | .ldDB => [0x50]
  | .ldDC => [0x51]
  | .ldDD => [0x52]
  | .ldDE => [0x53]
  | .ldDH => [0x54]
  | .ldDL => [0x55]
  | .ldDMemHl => [0x56]
  | .ldDA => [0x57]
  | .ldEB => [0x58]
  | .ldEC => [0x59]
  | .ldED => [0x5A]
  | .ldEE => [0x5B]
  | .ldEH => [0x5C]
  | .ldEL => [0x5D]
  | .ldEMemHl => [0x5E]
  | .ldEA => [0x5F]
  | .ldHB => [0x60]
  | .ldHC => [0x61]
  | .ldHD => [0x62]
  | .ldHE => [0x63]
  | .ldHH => [0x64]
  | .ldHL => [0x65]
  | .ldHMemHl => [0x66]
  | .ldHA => [0x67]
  | .ldLB => [0x68]
  | .ldLC => [0x69]
  | .ldLD => [0x6A]
  | .ldLE => [0x6B]
  | .ldLH => [0x6C]
  | .ldLL => [0x6D]
  | .ldLMemHl => [0x6E]
  | .ldLA => [0x6F]
  | .ldMemHlB => [0x70]
  | .ldMemHlC => [0x71]
  | .ldMemHlD => [0x72]
  | .ldMemHlE => [0x73]
  | .ldMemHlH => [0x74]
  | .ldMemHlL => [0x75]
  | .halt => [0x76]
  | .ldMemHlA => [0x77]
  | .ldAB => [0x78]
  | .ldAC => [0x79]
  | .ldAD => [0x7A]
  | .ldAE => [0x7B]
  | .ldAH => [0x7C]
  | .ldAL => [0x7D]
  | .ldAMemHl => [0x7E]
  | .ldAA => [0x7F]
  | .addAB => [0x80]
  | .addAC => [0x81]
  | .addAD => [0x82]
  | .addAE => [0x83]
  | .addAH => [0x84]
  | .addAL => [0x85]
  | .addAMemHl => [0x86]
  | .addAA => [0x87]
  | .adcAB => [0x88]
  | .adcAC => [0x89]
  | .adcAD => [0x8A]
  | .adcAE => [0x8B]
  | .adcAH => [0x8C]
  | .adcAL => [0x8D]
  | .adcAMemHl => [0x8E]
  | .adcAA => [0x8F]
  | .subB => [0x90]
  | .subC => [0x91]
  | .subD => [0x92]
  | .subE => [0x93]
  | .subH => [0x94]
  | .subL => [0x95]
  | .subMemHl => [0x96]
  | .subA => [0x97]
  | .sbcAB => [0x98]
  | .sbcAC => [0x99]
  | .sbcAD => [0x9A]
  | .sbcAE => [0x9B]
  | .sbcAH => [0x9C]
  | .sbcAL => [0x9D]
  | .sbcAMemHl => [0x9E]
  | .sbcAA => [0x9F]
  | .andB => [0xA0]
  | .andC => [0xA1]
  | .andD => [0xA2]
  | .andE => [0xA3]
  | .andH => [0xA4]
  | .andL => [0xA5]
  | .andMemHl => [0xA6]
  | .andA => [0xA7]
  | .xorB => [0xA8]
  | .xorC => [0xA9]
  | .xorD => [0xAA]
  | .xorE => [0xAB]
  | .xorH => [0xAC]
  | .xorL => [0xAD]
  | .xorMemHl => [0xAE]
  | .xorA => [0xAF]
  | .orB => [0xB0]
  | .orC => [0xB1]
  | .orD => [0xB2]
  | .orE => [0xB3]
  | .orH => [0xB4]
  | .orL => [0xB5]
  | .orMemHl => [0xB6]
  | .orA => [0xB7]
  | .cpB => [0xB8]
  | .cpC => [0xB9]
  | .cpD => [0xBA]
  | .cpE => [0xBB]
  | .cpH => [0xBC]
  | .cpL => [0xBD]
  | .cpMemHl => [0xBE]
  | .cpA => [0xBF]
  | .retNz => [0xC0]
  | .popBc => [0xC1]
  | .jpNzNn nn => [0xC2, lowByte nn, highByte nn]
  | .jpNn nn => [0xC3, lowByte nn, highByte nn]
  | .callNzNn nn => [0xC4, lowByte nn, highByte nn]
  | .pushBc => [0xC5]
  | .addAN n => [0xC6, n]
  | .rst00 => [0xC7]
  | .retZ => [0xC8]
  | .ret => [0xC9]
  | .jpZNn nn => [0xCA, lowByte nn, highByte nn]
  | .callZNn nn => [0xCC, lowByte nn, highByte nn]
  | .callNn nn => [0xCD, lowByte nn, highByte nn]
  | .adcAN n => [0xCE, n]
  | .rst08 => [0xCF]
  | .retNc => [0xD0]
  | .popDe => [0xD1]
  | .jpNcNn nn => [0xD2, lowByte nn, highByte nn]
  | .outPortNA n => [0xD3, n]
  | .callNcNn nn => [0xD4, lowByte nn, highByte nn]
  | .pushDe => [0xD5]
  | .subN n => [0xD6, n]
  | .rst10 => [0xD7]
  | .retC => [0xD8]
  | .exx => [0xD9]
  | .jpCNn nn => [0xDA, lowByte nn, highByte nn]
  | .inAPortN n => [0xDB, n]
  | .callCNn nn => [0xDC, lowByte nn, highByte nn]
  | .sbcAN n => [0xDE, n]
  | .rst18 => [0xDF]
  | .retPo => [0xE0]
  | .popHl => [0xE1]
  | .jpPoNn nn => [0xE2, lowByte nn, highByte nn]
  | .exMemSpHl => [0xE3]
  | .callPoNn nn => [0xE4, lowByte nn, highByte nn]
  | .pushHl => [0xE5]
  | .andN n => [0xE6, n]
  | .rst20 => [0xE7]
  | .retPe => [0xE8]
  | .jpHl => [0xE9]
  | .jpPeNn nn => [0xEA, lowByte nn, highByte nn]
  | .exDeHl => [0xEB]
  | .callPeNn nn => [0xEC, lowByte nn, highByte nn]
  | .xorN n => [0xEE, n]
  | .rst28 => [0xEF]
  | .retP => [0xF0]
  | .popAf => [0xF1]
  | .jpPNn nn => [0xF2, lowByte nn, highByte nn]
  | .di => [0xF3]
  | .callPNn nn => [0xF4, lowByte nn, highByte nn]
  | .pushAf => [0xF5]
  | .orN n => [0xF6, n]
  | .rst30 => [0xF7]
  | .retM => [0xF8]
  | .ldSpHl => [0xF9]
  | .jpMNn nn => [0xFA, lowByte nn, highByte nn]
  | .ei => [0xFB]
  | .callMNn nn => [0xFC, lowByte nn, highByte nn]
  | .cpN n => [0xFE, n]
  | .rst38 => [0xFF]
  | .rlcB => [0xCB, 0x00]
  | .rlcC => [0xCB, 0x01]
  | .rlcD => [0xCB, 0x02]
  | .rlcE => [0xCB, 0x03]
  | .rlcH => [0xCB, 0x04]
  | .rlcL => [0xCB, 0x05]
  | .rlcMemHl => [0xCB, 0x06]
  | .rlcA => [0xCB, 0x07]
  | .rrcB => [0xCB, 0x08]
  | .rrcC => [0xCB, 0x09]
  | .rrcD => [0xCB, 0x0A]
  | .rrcE => [0xCB, 0x0B]
  | .rrcH => [0xCB, 0x0C]
  | .rrcL => [0xCB, 0x0D]
  | .rrcMemHl => [0xCB, 0x0E]
  | .rrcA => [0xCB, 0x0F]
  | .rlB => [0xCB, 0x10]
  | .rlC => [0xCB, 0x11]
  | .rlD => [0xCB, 0x12]
  | .rlE => [0xCB, 0x13]
  | .rlH => [0xCB, 0x14]
  | .rlL => [0xCB, 0x15]
  | .rlMemHl => [0xCB, 0x16]
  | .rlA => [0xCB, 0x17]
  | .rrB => [0xCB, 0x18]
  | .rrC => [0xCB, 0x19]
  | .rrD => [0xCB, 0x1A]
  | .rrE => [0xCB, 0x1B]
  | .rrH => [0xCB, 0x1C]
  | .rrL => [0xCB, 0x1D]
  | .rrMemHl => [0xCB, 0x1E]
  | .rrA => [0xCB, 0x1F]
  | .slaB => [0xCB, 0x20]
  | .slaC => [0xCB, 0x21]
  | .slaD => [0xCB, 0x22]
  | .slaE => [0xCB, 0x23]
  | .slaH => [0xCB, 0x24]
  | .slaL => [0xCB, 0x25]
  | .slaMemHl => [0xCB, 0x26]
  | .slaA => [0xCB, 0x27]
  | .sraB => [0xCB, 0x28]
  | .sraC => [0xCB, 0x29]
  | .sraD => [0xCB, 0x2A]
  | .sraE => [0xCB, 0x2B]
  | .sraH => [0xCB, 0x2C]
  | .sraL => [0xCB, 0x2D]
  | .sraMemHl => [0xCB, 0x2E]
  | .sraA => [0xCB, 0x2F]
  | .srlB => [0xCB, 0x38]
  | .srlC => [0xCB, 0x39]
  | .srlD => [0xCB, 0x3A]
  | .srlE => [0xCB, 0x3B]
  | .srlH => [0xCB, 0x3C]
  | .srlL => [0xCB, 0x3D]
  | .srlMemHl => [0xCB, 0x3E]
  | .srlA => [0xCB, 0x3F]
  | .bit0B => [0xCB, 0x40]
  | .bit0C => [0xCB, 0x41]
  | .bit0D => [0xCB, 0x42]
  | .bit0E => [0xCB, 0x43]
  | .bit0H => [0xCB, 0x44]
  | .bit0L => [0xCB, 0x45]
  | .bit0MemHl => [0xCB, 0x46]
  | .bit0A => [0xCB, 0x47]
  | .bit1B => [0xCB, 0x48]
  | .bit1C => [0xCB, 0x49]
  | .bit1D => [0xCB, 0x4A]
  | .bit1E => [0xCB, 0x4B]
  | .bit1H => [0xCB, 0x4C]
  | .bit1L => [0xCB, 0x4D]
  | .bit1MemHl => [0xCB, 0x4E]
  | .bit1A => [0xCB, 0x4F]
  | .bit2B => [0xCB, 0x50]
  | .bit2C => [0xCB, 0x51]
  | .bit2D => [0xCB, 0x52]
  | .bit2E => [0xCB, 0x53]
  | .bit2H => [0xCB, 0x54]
  | .bit2L => [0xCB, 0x55]
  | .bit2MemHl => [0xCB, 0x56]
  | .bit2A => [0xCB, 0x57]
  | .bit3B => [0xCB, 0x58]
  | .bit3C => [0xCB, 0x59]
  | .bit3D => [0xCB, 0x5A]
  | .bit3E => [0xCB, 0x5B]
  | .bit3H => [0xCB, 0x5C]
  | .bit3L => [0xCB, 0x5D]
  | .bit3MemHl => [0xCB, 0x5E]
  | .bit3A => [0xCB, 0x5F]
  | .bit4B => [0xCB, 0x60]
  | .bit4C => [0xCB, 0x61]
  | .bit4D => [0xCB, 0x62]
  | .bit4E => [0xCB, 0x63]
  | .bit4H => [0xCB, 0x64]
  | .bit4L => [0xCB, 0x65]
  | .bit4MemHl => [0xCB, 0x66]
  | .bit4A => [0xCB, 0x67]
  | .bit5B => [0xCB, 0x68]
  | .bit5C => [0xCB, 0x69]
  | .bit5D => [0xCB, 0x6A]
  | .bit5E => [0xCB, 0x6B]
  | .bit5H => [0xCB, 0x6C]
  | .bit5L => [0xCB, 0x6D]
  | .bit5MemHl => [0xCB, 0x6E]
  | .bit5A => [0xCB, 0x6F]
  | .bit6B => [0xCB, 0x70]
  | .bit6C => [0xCB, 0x71]
  | .bit6D => [0xCB, 0x72]
  | .bit6E => [0xCB, 0x73]
  | .bit6H => [0xCB, 0x74]
  | .bit6L => [0xCB, 0x75]
  | .bit6MemHl => [0xCB, 0x76]
  | .bit6A => [0xCB, 0x77]
  | .bit7B => [0xCB, 0x78]
  | .bit7C => [0xCB, 0x79]
  | .bit7D => [0xCB, 0x7A]
  | .bit7E => [0xCB, 0x7B]
  | .bit7H => [0xCB, 0x7C]
  | .bit7L => [0xCB, 0x7D]
  | .bit7MemHl => [0xCB, 0x7E]
  | .bit7A => [0xCB, 0x7F]
  | .res0B => [0xCB, 0x80]
  | .res0C => [0xCB, 0x81]
  | .res0D => [0xCB, 0x82]
  | .res0E => [0xCB, 0x83]
  | .res0H => [0xCB, 0x84]
  | .res0L => [0xCB, 0x85]
  | .res0MemHl => [0xCB, 0x86]
  | .res0A => [0xCB, 0x87]
  | .res1B => [0xCB, 0x88]
  | .res1C => [0xCB, 0x89]
  | .res1D => [0xCB, 0x8A]
  | .res1E => [0xCB, 0x8B]
  | .res1H => [0xCB, 0x8C]
  | .res1L => [0xCB, 0x8D]
  | .res1MemHl => [0xCB, 0x8E]
  | .res1A => [0xCB, 0x8F]
  | .res2B => [0xCB, 0x90]
  | .res2C => [0xCB, 0x91]
  | .res2D => [0xCB, 0x92]
  | .res2E => [0xCB, 0x93]
  | .res2H => [0xCB, 0x94]
  | .res2L => [0xCB, 0x95]
  | .res2MemHl => [0xCB, 0x96]
  | .res2A => [0xCB, 0x97]
  | .res3B => [0xCB, 0x98]
  | .res3C => [0xCB, 0x99]
  | .res3D => [0xCB, 0x9A]
  | .res3E => [0xCB, 0x9B]
  | .res3H => [0xCB, 0x9C]
  | .res3L => [0xCB, 0x9D]
  | .res3MemHl => [0xCB, 0x9E]
  | .res3A => [0xCB, 0x9F]
  | .res4B => [0xCB, 0xA0]
  | .res4C => [0xCB, 0xA1]
  | .res4D => [0xCB, 0xA2]
  | .res4E => [0xCB, 0xA3]
  | .res4H => [0xCB, 0xA4]
  | .res4L => [0xCB, 0xA5]
  | .res4MemHl => [0xCB, 0xA6]
  | .res4A => [0xCB, 0xA7]
  | .res5B => [0xCB, 0xA8]
  | .res5C => [0xCB, 0xA9]
  | .res5D => [0xCB, 0xAA]
  | .res5E => [0xCB, 0xAB]
  | .res5H => [0xCB, 0xAC]
  | .res5L => [0xCB, 0xAD]
  | .res5MemHl => [0xCB, 0xAE]
  | .res5A => [0xCB, 0xAF]
  | .res6B => [0xCB, 0xB0]
  | .res6C => [0xCB, 0xB1]
  | .res6D => [0xCB, 0xB2]
  | .res6E => [0xCB, 0xB3]
  | .res6H => [0xCB, 0xB4]
  | .res6L => [0xCB, 0xB5]
  | .res6MemHl => [0xCB, 0xB6]
  | .res6A => [0xCB, 0xB7]
  | .res7B => [0xCB, 0xB8]
  | .res7C => [0xCB, 0xB9]
  | .res7D => [0xCB, 0xBA]
  | .res7E => [0xCB, 0xBB]
  | .res7H => [0xCB, 0xBC]
  | .res7L => [0xCB, 0xBD]
  | .res7MemHl => [0xCB, 0xBE]
  | .res7A => [0xCB, 0xBF]
  | .set0B => [0xCB, 0xC0]
  | .set0C => [0xCB, 0xC1]
  | .set0D => [0xCB, 0xC2]
  | .set0E => [0xCB, 0xC3]
  | .set0H => [0xCB, 0xC4]
  | .set0L => [0xCB, 0xC5]
  | .set0MemHl => [0xCB, 0xC6]
  | .set0A => [0xCB, 0xC7]
  | .set1B => [0xCB, 0xC8]
  | .set1C => [0xCB, 0xC9]
  | .set1D => [0xCB, 0xCA]
  | .set1E => [0xCB, 0xCB]
  | .set1H => [0xCB, 0xCC]
  | .set1L => [0xCB, 0xCD]
  | .set1MemHl => [0xCB, 0xCE]
  | .set1A => [0xCB, 0xCF]
  | .set2B => [0xCB, 0xD0]
  | .set2C => [0xCB, 0xD1]
  | .set2D => [0xCB, 0xD2]
  | .set2E => [0xCB, 0xD3]
  | .set2H => [0xCB, 0xD4]
  | .set2L => [0xCB, 0xD5]
  | .set2MemHl => [0xCB, 0xD6]
  | .set2A => [0xCB, 0xD7]
  | .set3B => [0xCB, 0xD8]
  | .set3C => [0xCB, 0xD9]
  | .set3D => [0xCB, 0xDA]
  | .set3E => [0xCB, 0xDB]
  | .set3H => [0xCB, 0xDC]
  | .set3L => [0xCB, 0xDD]
  | .set3MemHl => [0xCB, 0xDE]
  | .set3A => [0xCB, 0xDF]
  | .set4B => [0xCB, 0xE0]
  | .set4C => [0xCB, 0xE1]
  | .set4D => [0xCB, 0xE2]
  | .set4E => [0xCB, 0xE3]
  | .set4H => [0xCB, 0xE4]
  | .set4L => [0xCB, 0xE5]
  | .set4MemHl => [0xCB, 0xE6]
  | .set4A => [0xCB, 0xE7]
  | .set5B => [0xCB, 0xE8]
  | .set5C => [0xCB, 0xE9]
  | .set5D => [0xCB, 0xEA]
  | .set5E => [0xCB, 0xEB]
  | .set5H => [0xCB, 0xEC]
  | .set5L => [0xCB, 0xED]
  | .set5MemHl => [0xCB, 0xEE]
  | .set5A => [0xCB, 0xEF]
  | .set6B => [0xCB, 0xF0]
  | .set6C => [0xCB, 0xF1]
  | .set6D => [0xCB, 0xF2]
  | .set6E => [0xCB, 0xF3]
  | .set6H => [0xCB, 0xF4]
  | .set6L => [0xCB, 0xF5]
  | .set6MemHl => [0xCB, 0xF6]
  | .set6A => [0xCB, 0xF7]
  | .set7B => [0xCB, 0xF8]
  | .set7C => [0xCB, 0xF9]
  | .set7D => [0xCB, 0xFA]
  | .set7E => [0xCB, 0xFB]
  | .set7H => [0xCB, 0xFC]
  | .set7L => [0xCB, 0xFD]
  | .set7MemHl => [0xCB, 0xFE]
  | .set7A => [0xCB, 0xFF]
  | .inBPortC => [0xED, 0x40]
  | .outPortCB => [0xED, 0x41]
  | .sbcHlBc => [0xED, 0x42]
  | .ldMemNnBc nn => [0xED, 0x43, lowByte nn, highByte nn]
  | .neg => [0xED, 0x44]
  | .retn => [0xED, 0x45]
  | .im0 => [0xED, 0x46]
  | .ldIA => [0xED, 0x47]
  | .inCPortC => [0xED, 0x48]
  | .outPortCC => [0xED, 0x49]
  | .adcHlBc => [0xED, 0x4A]
  | .ldBcMemNn nn => [0xED, 0x4B, lowByte nn, highByte nn]
  | .reti => [0xED, 0x4D]
  | .ldRA => [0xED, 0x4F]
  | .inDPortC => [0xED, 0x50]
  | .outPortCD => [0xED, 0x51]
  | .sbcHlDe => [0xED, 0x52]
  | .ldMemNnDe nn => [0xED, 0x53, lowByte nn, highByte nn]
  | .im1 => [0xED, 0x56]
  | .ldAI => [0xED, 0x57]
  | .inEPortC => [0xED, 0x58]
  | .outPortCE => [0xED, 0x59]
  | .adcHlDe => [0xED, 0x5A]
  | .ldDeMemNn nn => [0xED, 0x5B, lowByte nn, highByte nn]
  | .im2 => [0xED, 0x5E]
  | .ldAR => [0xED, 0x5F]
  | .inHPortC => [0xED, 0x60]
  | .outPortCH => [0xED, 0x61]
  | .sbcHlHl => [0xED, 0x62]
  | .ldMemNnHlEd nn => [0xED, 0x63, lowByte nn, highByte nn]
  | .rrd => [0xED, 0x67]
  | .inLPortC => [0xED, 0x68]
  | .outPortCL => [0xED, 0x69]
  | .adcHlHl => [0xED, 0x6A]
  | .ldHlMemNnEd nn => [0xED, 0x6B, lowByte nn, highByte nn]
  | .rld => [0xED, 0x6F]
  | .sbcHlSp => [0xED, 0x72]
  | .ldMemNnSp nn => [0xED, 0x73, lowByte nn, highByte nn]
  | .inAPortC => [0xED, 0x78]
  | .outPortCA => [0xED, 0x79]
  | .adcHlSp => [0xED, 0x7A]
  | .ldSpMemNn nn => [0xED, 0x7B, lowByte nn, highByte nn]
  | .ldi => [0xED, 0xA0]
  | .cpi => [0xED, 0xA1]
  | .ini => [0xED, 0xA2]
  | .outi => [0xED, 0xA3]
  | .ldd => [0xED, 0xA8]
  | .cpd => [0xED, 0xA9]
  | .ind => [0xED, 0xAA]
  | .outd => [0xED, 0xAB]
  | .ldir => [0xED, 0xB0]
  | .cpir => [0xED, 0xB1]
  | .inir => [0xED, 0xB2]
  | .otir => [0xED, 0xB3]
  | .lddr => [0xED, 0xB8]
  | .cpdr => [0xED, 0xB9]
  | .indr => [0xED, 0xBA]
  | .otdr => [0xED, 0xBB]
  | .patch => [0xED, 0xFE]
  | .addIxBc => [0xDD, 0x09]
  | .addIxDe => [0xDD, 0x19]
  | .ldIxNn nn => [0xDD, 0x21, lowByte nn, highByte nn]
  | .ldMemNnIx nn => [0xDD, 0x22, lowByte nn, highByte nn]
  | .incIx => [0xDD, 0x23]
  | .addIxIx => [0xDD, 0x29]
  | .ldIxMemNn nn => [0xDD, 0x2A, lowByte nn, highByte nn]
  | .decIx => [0xDD, 0x2B]
  | .incMemIxd d => [0xDD, 0x34, d]
  | .decMemIxd d => [0xDD, 0x35, d]
  | .ldMemIxdN d n => [0xDD, 0x36, d, n]
  | .addIxSp => [0xDD, 0x39]
  | .ldBMemIxd d => [0xDD, 0x46, d]
  | .ldCMemIxd d => [0xDD, 0x4E, d]
  | .ldDMemIxd d => [0xDD, 0x56, d]
  | .ldEMemIxd d => [0xDD, 0x5E, d]
  | .ldHMemIxd d => [0xDD, 0x66, d]
  | .ldLMemIxd d => [0xDD, 0x6E, d]
  | .ldMemIxdB d => [0xDD, 0x70, d]
  | .ldMemIxdC d => [0xDD, 0x71, d]
  | .ldMemIxdD d => [0xDD, 0x72, d]
  | .ldMemIxdE d => [0xDD, 0x73, d]
  | .ldMemIxdH d => [0xDD, 0x74, d]
  | .ldMemIxdL d => [0xDD, 0x75, d]
  | .ldMemIxdA d => [0xDD, 0x77, d]
  | .ldAMemIxd d => [0xDD, 0x7E, d]
  | .addAMemIxd d => [0xDD, 0x86, d]
  | .adcAMemIxd d => [0xDD, 0x8E, d]
  | .subMemIxd d => [0xDD, 0x96, d]
  | .sbcAMemIxd d => [0xDD, 0x9E, d]
  | .andMemIxd d => [0xDD, 0xA6, d]
  | .xorMemIxd d => [0xDD, 0xAE, d]
  | .orMemIxd d => [0xDD, 0xB6, d]
  | .cpMemIxd d => [0xDD, 0xBE, d]
  | .popIx => [0xDD, 0xE1]
  | .exMemSpIx => [0xDD, 0xE3]
  | .pushIx => [0xDD, 0xE5]
  | .jpIx => [0xDD, 0xE9]
  | .ldSpIx => [0xDD, 0xF9]
  | .addIyBc => [0xFD, 0x09]
  | .addIyDe => [0xFD, 0x19]
  | .ldIyNn nn => [0xFD, 0x21, lowByte nn, highByte nn]
  | .ldMemNnIy nn => [0xFD, 0x22, lowByte nn, highByte nn]
  | .incIy => [0xFD, 0x23]
  | .addIyIy => [0xFD, 0x29]
  | .ldIyMemNn nn => [0xFD, 0x2A, lowByte nn, highByte nn]
  | .decIy => [0xFD, 0x2B]
  | .incMemIyd d => [0xFD, 0x34, d]
  | .decMemIyd d => [0xFD, 0x35, d]
  | .ldMemIydN d n => [0xFD, 0x36, d, n]
  | .addIySp => [0xFD, 0x39]
  | .ldBMemIyd d => [0xFD, 0x46, d]
  | .ldCMemIyd d => [0xFD, 0x4E, d]
  | .ldDMemIyd d => [0xFD, 0x56, d]
  | .ldEMemIyd d => [0xFD, 0x5E, d]
  | .ldHMemIyd d => [0xFD, 0x66, d]
  | .ldLMemIyd d => [0xFD, 0x6E, d]
  | .ldMemIydB d => [0xFD, 0x70, d]
  | .ldMemIydC d => [0xFD, 0x71, d]
  | .ldMemIydD d => [0xFD, 0x72, d]
  | .ldMemIydE d => [0xFD, 0x73, d]
  | .ldMemIydH d => [0xFD, 0x74, d]
  | .ldMemIydL d => [0xFD, 0x75, d]
  | .ldMemIydA d => [0xFD, 0x77, d]
  | .ldAMemIyd d => [0xFD, 0x7E, d]
  | .addAMemIyd d => [0xFD, 0x86, d]
  | .adcAMemIyd d => [0xFD, 0x8E, d]
  | .subMemIyd d => [0xFD, 0x96, d]
  | .sbcAMemIyd d => [0xFD, 0x9E, d]
  | .andMemIyd d => [0xFD, 0xA6, d]
  | .xorMemIyd d => [0xFD, 0xAE, d]
  | .orMemIyd d => [0xFD, 0xB6, d]
  | .cpMemIyd d => [0xFD, 0xBE, d]
  | .popIy => [0xFD, 0xE1]
  | .exMemSpIy => [0xFD, 0xE3]
  | .pushIy => [0xFD, 0xE5]
  | .jpIy => [0xFD, 0xE9]
  | .ldSpIy => [0xFD, 0xF9]
  | .rlcMemIxd d => [0xDD, 0xCB, d, 0x06]
  | .rrcMemIxd d => [0xDD, 0xCB, d, 0x0E]
  | .rlMemIxd d => [0xDD, 0xCB, d, 0x16]
  | .rrMemIxd d => [0xDD, 0xCB, d, 0x1E]
  | .slaMemIxd d => [0xDD, 0xCB, d, 0x26]
  | .sraMemIxd d => [0xDD, 0xCB, d, 0x2E]
  | .srlMemIxd d => [0xDD, 0xCB, d, 0x3E]
  | .bit0MemIxd d => [0xDD, 0xCB, d, 0x46]
  | .bit1MemIxd d => [0xDD, 0xCB, d, 0x4E]
  | .bit2MemIxd d => [0xDD, 0xCB, d, 0x56]
  | .bit3MemIxd d => [0xDD, 0xCB, d, 0x5E]
  | .bit4MemIxd d => [0xDD, 0xCB, d, 0x66]
  | .bit5MemIxd d => [0xDD, 0xCB, d, 0x6E]
  | .bit6MemIxd d => [0xDD, 0xCB, d, 0x76]
  | .bit7MemIxd d => [0xDD, 0xCB, d, 0x7E]
  | .res0MemIxd d => [0xDD, 0xCB, d, 0x86]
  | .res1MemIxd d => [0xDD, 0xCB, d, 0x8E]
  | .res2MemIxd d => [0xDD, 0xCB, d, 0x96]
  | .res3MemIxd d => [0xDD, 0xCB, d, 0x9E]
  | .res4MemIxd d => [0xDD, 0xCB, d, 0xA6]
  | .res5MemIxd d => [0xDD, 0xCB, d, 0xAE]
  | .res6MemIxd d => [0xDD, 0xCB, d, 0xB6]
  | .res7MemIxd d => [0xDD, 0xCB, d, 0xBE]
  | .set0MemIxd d => [0xDD, 0xCB, d, 0xC6]
  | .set1MemIxd d => [0xDD, 0xCB, d, 0xCE]
  | .set2MemIxd d => [0xDD, 0xCB, d, 0xD6]
  | .set3MemIxd d => [0xDD, 0xCB, d, 0xDE]
  | .set4MemIxd d => [0xDD, 0xCB, d, 0xE6]
  | .set5MemIxd d => [0xDD, 0xCB, d, 0xEE]
  | .set6MemIxd d => [0xDD, 0xCB, d, 0xF6]
  | .set7MemIxd d => [0xDD, 0xCB, d, 0xFE]
  | .rlcMemIyd d => [0xFD, 0xCB, d, 0x06]
  | .rrcMemIyd d => [0xFD, 0xCB, d, 0x0E]
  | .rlMemIyd d => [0xFD, 0xCB, d, 0x16]
  | .rrMemIyd d => [0xFD, 0xCB, d, 0x1E]
  | .slaMemIyd d => [0xFD, 0xCB, d, 0x26]
  | .sraMemIyd d => [0xFD, 0xCB, d, 0x2E]
  | .srlMemIyd d => [0xFD, 0xCB, d, 0x3E]
  | .bit0MemIyd d => [0xFD, 0xCB, d, 0x46]
  | .bit1MemIyd d => [0xFD, 0xCB, d, 0x4E]
  | .bit2MemIyd d => [0xFD, 0xCB, d, 0x56]
  | .bit3MemIyd d => [0xFD, 0xCB, d, 0x5E]
  | .bit4MemIyd d => [0xFD, 0xCB, d, 0x66]
  | .bit5MemIyd d => [0xFD, 0xCB, d, 0x6E]
  | .bit6MemIyd d => [0xFD, 0xCB, d, 0x76]
  | .bit7MemIyd d => [0xFD, 0xCB, d, 0x7E]
  | .res0MemIyd d => [0xFD, 0xCB, d, 0x86]
  | .res1MemIyd d => [0xFD, 0xCB, d, 0x8E]
  | .res2MemIyd d => [0xFD, 0xCB, d, 0x96]
  | .res3MemIyd d => [0xFD, 0xCB, d, 0x9E]
  | .res4MemIyd d => [0xFD, 0xCB, d, 0xA6]
  | .res5MemIyd d => [0xFD, 0xCB, d, 0xAE]
  | .res6MemIyd d => [0xFD, 0xCB, d, 0xB6]
  | .res7MemIyd d => [0xFD, 0xCB, d, 0xBE]
  | .set0MemIyd d => [0xFD, 0xCB, d, 0xC6]
  | .set1MemIyd d => [0xFD, 0xCB, d, 0xCE]
  | .set2MemIyd d => [0xFD, 0xCB, d, 0xD6]
  | .set3MemIyd d => [0xFD, 0xCB, d, 0xDE]
  | .set4MemIyd d => [0xFD, 0xCB, d, 0xE6]
  | .set5MemIyd d => [0xFD, 0xCB, d, 0xEE]
  | .set6MemIyd d => [0xFD, 0xCB, d, 0xF6]
  | .set7MemIyd d => [0xFD, 0xCB, d, 0xFE]

/-! ### Words of the opcode table -/

/-- How many bytes `decode` takes from a list; 0 where it gives no instruction. -/
def decodedLength (bytes : List Byte) : Nat :=
  match decode bytes with
  | .ok (_, t) => bytes.length - t.length
  | .error _ => 0

/-- The `k` bytes of `w`, the first in the most significant place: how spec/opcode_table.json numbers them in its `match`
and `fixed` columns (`CB 38` is 0xCB38). -/
def bytesHighFirst (k w : Nat) : List Byte := (List.range k).map fun i => BitVec.ofNat 8 (w >>> (8 * (k - 1 - i)))

/-- The `k` bytes of `w`, the first in the least significant place. -/
def bytesLowFirst (k w : Nat) : List Byte := (List.range k).map fun i => BitVec.ofNat 8 (w >>> (8 * i))

/-- The bytes of an instruction of `nbits` bits numbered `w`, zeros after them up to four bytes: by the table's numbering,
and by the other one where only that fills exactly `nbits` bits with an instruction (log 13). -/
def tableBytes (nbits w : Nat) : List Byte :=
  let k := (nbits + 7) / 8
  let zeros := List.replicate (4 - k) (0 : Byte)
  let high := bytesHighFirst k w ++ zeros
  let low := bytesLowFirst k w ++ zeros
  if decodedLength high ≠ k ∧ decodedLength low = k then low else high

/-- The instruction the decoder reads from an instruction whose bits are `w`, numbered as the opcode table numbers them. -/
def decodeTableWord (nbits w : Nat) : Option Instr :=
  match decode (tableBytes nbits w) with
  | .ok (i, _) => some i
  | .error _ => none

end Sys2Proof
end

