-- ==== Sys2Proof/Config.lean ====
section
/-! DEFINITION. What an implementation fixes (00_scope.md section 3, R6), as plain data, and the free value of a draw (R13). -/

namespace Sys2Proof

/-- The two settings of each error policy (glossary of 00_scope.md). -/
inductive Policy where
  | strict
  | permissive
deriving DecidableEq, Repr

/-- The configuration of one machine (R6). It is fixed while the machine runs. `IPeriod` is not here: the host may
write it (R541), so it is state. The ROM images are not here either: `internalWrite` may change them (R100). -/
structure Config where
  /-- `N`, the number of 16KB RAM blocks. -/
  ramBlockCount : Nat
  /-- `MAX_BLOCKS`, the upper bound on `N` (D14). -/
  maxBlocks : Nat
  /-- `nSub[s]` for the slots 0 to 7; an absent entry counts as 0, an empty socket (R53). -/
  nSub : List Nat
  /-- `ramMap` as a table (R94): entry `(16 * ioByte[7] + ioByte[3:0]) * 4 + w` is the block of window `w`, `none` for
  unmapped. The index holds all that law L2 lets `ramMap` depend on. -/
  ramTable : List (Option Nat)
  opcodePolicy : Policy
  portPolicy : Policy
  ackPolicy : Policy
  /-- The byte an unmapped `IN` returns under the permissive policy (D10). -/
  dummyInValue : Byte
  /-- The port low byte whose `OUT` calls `setIoByte` (D11). -/
  ioBytePort : Byte
  /-- The port low bytes with a host handler for `IN` (D12). -/
  portMapIn : List Byte
  /-- The port low bytes with a host handler for `OUT` (D12). -/
  portMapOut : List Byte
  /-- The cycles `ED FE` costs (D25). -/
  patchCycles : Nat
deriving DecidableEq, Repr

/-- The free value of draw number `n` (R13): a byte nothing constrains. A draw of one flag takes that flag's own bit. -/
opaque Config.draw : Nat → Byte

/-- The reference instance of `ramMap` (R95) for `n` blocks. -/
def referenceRamMap (n : Nat) (romRam : Bool) (nibble w : Nat) : Option Nat :=
  let res (b : Nat) : Option Nat := if b < n then some b else if n = 2 then some 0 else none
  match romRam, w with
  | true, 1 => res (2 * nibble + 2)
  | true, 2 => res (2 * nibble + 1)
  | true, 3 => if nibble = 15 then none else some 0
  | true, _ => none
  | false, 3 => some 0
  | false, w => res (3 * nibble + w + 1)

/-- The reference instance as a table, in the order of `Config.ramTable`. -/
def referenceRamTable (n : Nat) : List (Option Nat) :=
  (List.range 128).map fun k => referenceRamMap n (decide (k < 64)) (k / 4 % 16) (k % 4)

/-- The configuration of `State.reset`: the defaults of 00_scope.md section 3, and for the OPEN parameters the choices of
log 4 (N = 4, one page per slot, the reference `ramMap`) and log 5 (every port has a handler, so that every `IN` and
`OUT` runs). -/
def Config.reference : Config where
  ramBlockCount := 4
  maxBlocks := 49
  nSub := [1, 1, 1, 1, 1, 1, 1, 1]
  ramTable := referenceRamTable 4
  opcodePolicy := .permissive
  portPolicy := .strict
  ackPolicy := .permissive
  dummyInValue := 0xFF
  ioBytePort := 0x00
  portMapIn := (List.range 256).map (BitVec.ofNat 8)
  portMapOut := ((List.range 256).map (BitVec.ofNat 8)).tail
  patchCycles := 8

end Sys2Proof
end

