-- ==== Sys2Proof/WellFormed.lean ====
section
/-! DEFINITION. When a term of the syntax and a configuration are well formed. -/

namespace Sys2Proof

/-- Every instruction term is well formed: the operand fields `n`, `e`, `d` and `nn` are exactly as wide as their
encodings and every value of them is legal (R157), and a register, condition or bit number is part of the constructor. -/
def Instr.wellFormed (_ : Instr) : Bool := true

/-- The index of window `w` in `Config.ramTable` (R94, law L2): the mode bit, the low nibble and the window. -/
def ramTableIndex (romRam : Bool) (nibble w : Nat) : Nat := ((if romRam then 0 else 16) + nibble) * 4 + w

/-- The table's entry: the block of window `w`, or `none` for unmapped. -/
def Config.ramEntry (c : Config) (romRam : Bool) (nibble w : Nat) : Option Nat :=
  c.ramTable.getD (ramTableIndex romRam nibble w) none

/-- `2 <= N <= MAX_BLOCKS` (R7, R101). -/
def Config.blocksOk (c : Config) : Bool := decide (2 ≤ c.ramBlockCount) && decide (c.ramBlockCount ≤ c.maxBlocks)

/-- No slot outside 0..7 and `nSub[s] <= 256` (R7, R101). -/
def Config.slotsOk (c : Config) : Bool := decide (c.nSub.length ≤ 8) && c.nSub.all (fun n => decide (n ≤ 256))

/-- Every mapped window has a block `b < N` (R94). -/
def Config.ramRangeOk (c : Config) : Bool :=
  c.ramTable.all (fun e => match e with
    | none => true
    | some b => decide (b < c.ramBlockCount))

/-- Law L3 of R94: in ROM+RAM mode with low nibble 0xF, window 3 is unmapped. -/
def Config.quirkOk (c : Config) : Bool := (c.ramEntry true 15 3).isNone

/-- Law L4 of R94: windows 2 and 3 mirror when `N = 2` and do not when `N >= 4`. -/
def Config.mirrorOk (c : Config) : Bool :=
  (c.ramBlockCount != 2 || (c.ramEntry false 0 2 == c.ramEntry false 0 3 && (c.ramEntry false 0 2).isSome)) &&
  (decide (c.ramBlockCount < 4) || c.ramEntry false 0 2 != c.ramEntry false 0 3)

/-- Law L5 of R94: with the I/O-byte 0x00 the windows 1 to 3 are all mapped. -/
def Config.baseOk (c : Config) : Bool :=
  (c.ramEntry true 0 1).isSome && (c.ramEntry true 0 2).isSome && (c.ramEntry true 0 3).isSome

/-- `ioBytePort` has no host handler for `OUT` (R112). -/
def Config.portsOk (c : Config) : Bool := !c.portMapOut.contains c.ioBytePort

/-- `patchCycles` is at most 23 (D25). -/
def Config.patchCyclesOk (c : Config) : Bool := decide (c.patchCycles ≤ 23)

/-- The configurations for which a machine exists (R7, R101) and whose parameters meet their constraints. -/
def Config.valid (c : Config) : Bool :=
  c.blocksOk && c.slotsOk && c.ramRangeOk && c.quirkOk && c.mirrorOk && c.baseOk && c.portsOk && c.patchCyclesOk

/-- The range of `IPeriod` (R48): 23 .. 2^30. -/
def periodOk (p : Int) : Bool := decide (23 ≤ p) && decide (p ≤ 2 ^ 30)

end Sys2Proof
end

