-- ==== Sys2Proof/Machine/State.lean ====
section
/-! DEFINITION. The state of one machine as plain data, the reasons a step can stop, and the state after reset. -/

namespace Sys2Proof.Machine

/-- The flag register F (R38), bit 7 down to bit 0. -/
structure Flags where
  s : Bool
  z : Bool
  y : Bool
  h : Bool
  x : Bool
  pv : Bool
  n : Bool
  c : Bool
deriving DecidableEq, Repr, Inhabited

/-- The eight 8-bit registers of one set, main (R30) or shadow (R32). -/
structure Bank where
  a : Byte
  f : Flags
  b : Byte
  c : Byte
  d : Byte
  e : Byte
  h : Byte
  l : Byte
deriving DecidableEq, Repr, Inhabited

/-- The interrupt mode (R41). Three values: "both set is not reachable". -/
inductive IntMode where
  | im0
  | im1
  | im2
deriving DecidableEq, Repr, Inhabited

/-- The CPU's register file with its interrupt flip-flops: what a host callback sees as the registers (R540). -/
structure Cpu where
  main : Bank
  shadow : Bank
  ix : Word
  iy : Word
  sp : Word
  pc : Word
  i : Byte
  /-- Bit 7 of R, all of R that is kept (R37). -/
  r7 : Bool
  iff1 : Bool
  iff2 : Bool
  im : IntMode
  eiDelay : Bool
  halted : Bool
  inService : Bool
deriving DecidableEq, Repr, Inhabited

/-- The direction of a port access (R114). -/
inductive PortDir where
  | input
  | output
deriving DecidableEq, Repr, Inhabited

/-- A call the block makes to the host, or a diagnostic event it emits (R540). -/
inductive HostEvent where
  | hostIn (port : Word) (regs : Cpu)
  | hostOut (port : Word) (value : Byte) (regs : Cpu)
  | acknowledge (regs : Cpu)
  | periodicCheck (elapsed : Int) (regs : Cpu)
  | retiSignal (regs : Cpu)
  | patch (regs : Cpu)
  | opcodeWarning (regs : Cpu)
  /-- Diagnostic of a bad port (R114). -/
  | badPort (dir : PortDir) (port : Word) (value : Option Byte)
  /-- Diagnostic of a declined acknowledge (R509). -/
  | ackDeclined (pc : Word)
deriving DecidableEq, Repr, Inhabited

/-- One thing `patch` may do to the machine (R332, R540): write the CPU registers, write memory through
`internalWrite`, write a memory-map register. -/
inductive HostAction where
  | setCpu (regs : Cpu)
  | internalWrite (addr : Word) (v : Byte)
  | setIoByte (v : Byte)
  | setRomSubPage (v : Byte)
  | setRomEnableMask (v : Byte)
deriving DecidableEq, Repr, Inhabited

/-- The host's answer to one call. Each call reads the fields that concern it. -/
structure HostReply where
  /-- The byte `hostIn` returns (R113), or the vector of `acknowledgeInterrupt` (R508). -/
  value : Byte
  /-- Whether `acknowledgeInterrupt` accepts (R508, R509). -/
  accept : Bool
  /-- Whether `unrecognizedOpcodeWarning` answers abort (R519). -/
  abort : Bool
  /-- The 16-bit result of `periodicCheck` (R514). -/
  result : Word
  /-- The value `periodicCheck` writes to IPeriod, if it writes one (R541). -/
  newPeriod : Option Int
  /-- What `patch` does to the machine, in order (R332). -/
  actions : List HostAction
  /-- Whether the host raises a maskable request during the call (R517). -/
  raiseInt : Bool
  /-- Whether the host raises a non-maskable request during the call (R517). -/
  raiseNmi : Bool
deriving DecidableEq, Repr, Inhabited

/-- One array of memory bytes: cells at strictly rising indexes, none equal to what an unlisted cell reads as. -/
abbrev Memory := List Host.Cell

/-- What a cell that is not listed reads as, in RAM and in ROM alike (DESIGN CHOICE, log 3). -/
def unlistedByte : Byte := 0xFF

/-- The canonical form of a memory: indexes strictly rising, and no cell holds `unlistedByte`. -/
abbrev Memory.wf (m : Memory) : Prop :=
  m.Pairwise (fun p q => p.1 < q.1) ∧ ∀ c ∈ m, c.2 ≠ unlistedByte

/-- The state of one machine: CPU (R30 to R43, R47), request latches (R45), counters (R48, R49), memory-map registers
(R51), memories (R52, R53), the configuration it was made with (R6), and the model's own bookkeeping of draws and of
the host's part. The tables of R54 are derived and are computed at every access. -/
structure State where
  cpu : Cpu
  intPending : Bool
  nmiPending : Bool
  iCount : Int
  iPeriod : Int
  iBackup : Int
  iElapsed : Nat
  ioByte : Byte
  subPage : Byte
  romEnableMask : Byte
  /-- RAM: cell `b * 0x4000 + o` is `RAM[b][o]` (R52). -/
  ram : Memory
  /-- The monitor ROM: cell `o` is `monitorRom[o]` (R53). -/
  monitorRom : Memory
  /-- The slot ROMs: cell `(s * 256 + p) * 0x2000 + o` is `ROM[s][p][o]` (R53). -/
  rom : Memory
  cfg : Config
  /-- How many draws were made: the index of the next one (log 1). -/
  draws : Nat
  /-- The answers the host will give to the coming calls, oldest first (log 6). -/
  hostReplies : List HostReply
  /-- The calls made to the host and the diagnostics emitted, newest first (log 6). -/
  hostLog : List HostEvent
deriving DecidableEq, Repr

/-- The faults of R501. Each is precise: `before` is the state before the faulting step, which changed nothing. -/
inductive Fault where
  /-- Raised by decode for an undocumented encoding under the strict opcode policy, when the host answers abort (R519).
  The hardware stops here too: safe. -/
  | illegalOpcode (pc0 : Word) (bytes : List Byte) (before : State)
  /-- Raised by a port access whose low byte has no handler, under the strict port policy (R114). The hardware stops
  here too: safe. -/
  | badPort (pc0 : Word) (dir : PortDir) (port : Word) (value : Option Byte) (before : State)
  /-- Raised at a mode 2 acceptance the host declines, under the strict acknowledge policy (R509). The hardware stops
  here too: safe. -/
  | ackDeclined (pc : Word) (i : Byte) (before : State)
deriving DecidableEq, Repr

/-- The refusals of R14: the model has no meaning to give. -/
inductive Refusal where
  /-- Raised by exec's arm of an instruction that has no meaning yet. Safe. -/
  | notModelled (mnemonic : String)
  /-- Raised by decode for an undocumented encoding (R162, R519): the spec gives it no meaning. Safe. -/
  | undocumentedEncoding (pc0 : Word) (bytes : List Byte)
  /-- Raised by a step after which IElapsed would be 2^64 or more (93_implementation_defined.md): the spec refuses. Safe. -/
  | elapsedOverflow
  /-- Raised by a host write of IPeriod outside 23 .. 2^30 (R541): the spec refuses. Safe. -/
  | periodOutOfRange (value : Int)
deriving DecidableEq, Repr

/-- The outcome of a step, a meaning or a host operation. -/
abbrev Outcome := Host.Outcome State Fault Refusal

end Sys2Proof.Machine

namespace Sys2Proof

/-- The free value of the host's answer to the call that heads the log (log 6): an answer nothing constrains. It is used
when `hostReplies` is empty. -/
opaque Config.hostReply : List Machine.HostEvent → Machine.HostReply

end Sys2Proof

namespace Sys2Proof.Machine

/-- A bank with every register 0: the value named for the registers the spec gives none (DESIGN CHOICE, log 2). -/
def Bank.zero : Bank where
  a := 0
  f := ⟨false, false, false, false, false, false, false, false⟩
  b := 0
  c := 0
  d := 0
  e := 0
  h := 0
  l := 0

/-- The register file right after reset: the values of R600, and 0 for the registers it leaves open (log 2). -/
def Cpu.reset : Cpu where
  main := Bank.zero
  shadow := Bank.zero
  ix := 0
  iy := 0
  sp := 0xFFFF
  pc := 0x0000
  i := 0x00
  r7 := false
  iff1 := false
  iff2 := false
  im := .im0
  eiDelay := false
  halted := false
  inService := false

/-- The machine right after power-on, `configure` followed by `reset` (R101, R600, R601), with the configuration
`Config.reference` and `IPeriod = 1000` (log 4). -/
def State.reset : State where
  cpu := Cpu.reset
  intPending := false
  nmiPending := false
  iCount := 1000
  iPeriod := 1000
  iBackup := 1000
  iElapsed := 0
  ioByte := 0x00
  subPage := 0x00
  romEnableMask := 0xFF
  ram := []
  monitorRom := []
  rom := []
  cfg := Config.reference
  draws := 0
  hostReplies := []
  hostLog := []

end Sys2Proof.Machine
end

