-- ==== Sys2Proof/Machine/Flags.lean ====
section
/-! DEFINITION. The flag register as a byte (R38) and every flag computation of 40 to 49. Each computation takes the flags
it starts from as `d`: a flag it does not name keeps the value it has in `d`, so with drawn flags as `d` it is a draw
(R39), and with the old flags named back it is unchanged. -/

namespace Sys2Proof.Machine

/-- F as a byte: S Z Y H X PV N C from bit 7 down (R38). -/
def Flags.toByte (f : Flags) : Byte :=
  BitVec.ofBool f.s ++ BitVec.ofBool f.z ++ BitVec.ofBool f.y ++ BitVec.ofBool f.h ++
    BitVec.ofBool f.x ++ BitVec.ofBool f.pv ++ BitVec.ofBool f.n ++ BitVec.ofBool f.c

/-- A byte as F (R38). -/
def Flags.ofByte (b : Byte) : Flags where
  s := b.getLsbD 7
  z := b.getLsbD 6
  y := b.getLsbD 5
  h := b.getLsbD 4
  x := b.getLsbD 3
  pv := b.getLsbD 2
  n := b.getLsbD 1
  c := b.getLsbD 0

/-- `parity(v)` of R12: true when `v` has an even number of one bits. -/
def parity (v : Byte) : Bool :=
  !(v.getLsbD 0 ^^ v.getLsbD 1 ^^ v.getLsbD 2 ^^ v.getLsbD 3 ^^
    v.getLsbD 4 ^^ v.getLsbD 5 ^^ v.getLsbD 6 ^^ v.getLsbD 7)

/-- The low four bits of a byte, as a number: `v[3:0]`. -/
def lowNibble (v : Byte) : Nat := v.toNat % 16

/-- The low twelve bits of a word, as a number: `v[11:0]`. -/
def low12 (v : Word) : Nat := v.toNat % 4096

/-- The result of `add8` (R291). -/
def add8 (a b : Byte) (c : Bool) : Byte := BitVec.ofNat 8 (a.toNat + b.toNat + c.toNat)

/-- The flags of `add8` (R291). -/
def add8Flags (d : Flags) (a b : Byte) (c : Bool) : Flags :=
  { d with
    s := (add8 a b c).msb
    z := add8 a b c == 0
    h := decide (lowNibble a + lowNibble b + c.toNat > 15)
    pv := a.msb == b.msb && (add8 a b c).msb != a.msb
    n := false
    c := decide (a.toNat + b.toNat + c.toNat > 255) }

/-- The result of `sub8` (R291). -/
def sub8 (a b : Byte) (c : Bool) : Byte := a - b - BitVec.ofNat 8 c.toNat

/-- The flags of `sub8` (R291). -/
def sub8Flags (d : Flags) (a b : Byte) (c : Bool) : Flags :=
  { d with
    s := (sub8 a b c).msb
    z := sub8 a b c == 0
    h := decide (lowNibble a < lowNibble b + c.toNat)
    pv := a.msb != b.msb && (sub8 a b c).msb != a.msb
    n := true
    c := decide (a.toNat < b.toNat + c.toNat) }

/-- The flags of `AND`, `OR` and `XOR` with result `r` (R296, R297, R298); `h` is 1 for `AND` only. -/
def logicFlags (d : Flags) (r : Byte) (h : Bool) : Flags :=
  { d with s := r.msb, z := r == 0, h := h, pv := parity r, n := false, c := false }

/-- The new `A` after an 8-bit operation on `A` and a source (R292 to R299); `CP` keeps `A`. -/
def aluResult (op : AluOp) (a v : Byte) (c : Bool) : Byte :=
  match op with
  | .add => add8 a v false
  | .adc => add8 a v c
  | .sub => sub8 a v false
  | .sbc => sub8 a v c
  | .and => a &&& v
  | .xor => a ^^^ v
  | .or => a ||| v
  | .cp => a

/-- The flags of an 8-bit operation on `A` and a source (R292 to R299). -/
def aluFlags (op : AluOp) (d : Flags) (a v : Byte) (c : Bool) : Flags :=
  match op with
  | .add => add8Flags d a v false
  | .adc => add8Flags d a v c
  | .sub => sub8Flags d a v false
  | .sbc => sub8Flags d a v c
  | .and => logicFlags d (a &&& v) true
  | .xor => logicFlags d (a ^^^ v) false
  | .or => logicFlags d (a ||| v) false
  | .cp => sub8Flags d a v false

/-- The flags of an 8-bit `INC` of `v` (R300); `C` is unchanged. -/
def inc8Flags (d old : Flags) (v : Byte) : Flags :=
  { d with
    s := (v + 1).msb
    z := v + 1 == 0
    h := lowNibble v == 15
    pv := v == 0x7F
    n := false
    c := old.c }

/-- The flags of an 8-bit `DEC` of `v` (R301); `C` is unchanged. -/
def dec8Flags (d old : Flags) (v : Byte) : Flags :=
  { d with
    s := (v - 1).msb
    z := v - 1 == 0
    h := lowNibble v == 0
    pv := v == 0x80
    n := true
    c := old.c }

/-- The correction byte of `DAA` (R320). -/
def daaCorrection (old : Flags) (a : Byte) : Byte :=
  (if old.h || decide (lowNibble a > 9) then 0x06 else 0x00) |||
    (if old.c || decide (a.toNat > 0x99) then 0x60 else 0x00)

/-- The result of `DAA` (R320). -/
def daaResult (old : Flags) (a : Byte) : Byte :=
  if old.n then a - daaCorrection old a else a + daaCorrection old a

/-- The flags of `DAA` (R320); `N` is unchanged. -/
def daaFlags (d old : Flags) (a : Byte) : Flags :=
  { d with
    s := (daaResult old a).msb
    z := daaResult old a == 0
    h := if old.n then old.h && decide (lowNibble a < 6) else decide (lowNibble a > 9)
    pv := parity (daaResult old a)
    n := old.n
    c := old.c || decide (a.toNat > 0x99) }

/-- The flags of `CPL` (R321). -/
def cplFlags (d old : Flags) : Flags :=
  { d with s := old.s, z := old.z, h := true, pv := old.pv, n := true, c := old.c }

/-- The flags of `CCF` (R323). -/
def ccfFlags (d old : Flags) : Flags :=
  { d with s := old.s, z := old.z, h := old.c, pv := old.pv, n := false, c := !old.c }

/-- The flags of `SCF` (R324). -/
def scfFlags (d old : Flags) : Flags :=
  { d with s := old.s, z := old.z, h := false, pv := old.pv, n := false, c := true }

/-- The result of `ADD` of 16 bits with a carry in (R350, R351). -/
def add16 (a b : Word) (c : Bool) : Word := BitVec.ofNat 16 (a.toNat + b.toNat + c.toNat)

/-- The result of `SBC HL,ss` (R352). -/
def sub16 (a b : Word) (c : Bool) : Word := a - b - BitVec.ofNat 16 c.toNat

/-- The flags of `ADD HL,ss`, `ADD IX,pp` and `ADD IY,rr` (R350, R353, R354); `S`, `Z` and `PV` are unchanged. -/
def add16Flags (d old : Flags) (a b : Word) : Flags :=
  { d with
    s := old.s
    z := old.z
    h := decide (low12 a + low12 b > 0xFFF)
    pv := old.pv
    n := false
    c := decide (a.toNat + b.toNat > 0xFFFF) }

/-- The flags of `ADC HL,ss` (R351). -/
def adc16Flags (d : Flags) (a b : Word) (c : Bool) : Flags :=
  { d with
    s := (add16 a b c).msb
    z := add16 a b c == 0
    h := decide (low12 a + low12 b + c.toNat > 0xFFF)
    pv := a.msb == b.msb && (add16 a b c).msb != a.msb
    n := false
    c := decide (a.toNat + b.toNat + c.toNat > 0xFFFF) }

/-- The flags of `SBC HL,ss` (R352). -/
def sbc16Flags (d : Flags) (a b : Word) (c : Bool) : Flags :=
  { d with
    s := (sub16 a b c).msb
    z := sub16 a b c == 0
    h := decide (low12 a < low12 b + c.toNat)
    pv := a.msb != b.msb && (sub16 a b c).msb != a.msb
    n := true
    c := decide (a.toNat < b.toNat + c.toNat) }

/-- The bit a rotate or shift moves out of `v` (R375 to R381): bit 7 to the left, bit 0 to the right. -/
def rotCarry (op : RotOp) (v : Byte) : Bool :=
  match op with
  | .rlc | .rl | .sla => v.getLsbD 7
  | .rrc | .rr | .sra | .srl => v.getLsbD 0

/-- `v[6:0] ++ b`: shifted left with `b` moved in. -/
def shiftLeftIn (v : Byte) (b : Bool) : Byte := v.extractLsb' 0 7 ++ BitVec.ofBool b

/-- `b ++ v[7:1]`: shifted right with `b` moved in. -/
def shiftRightIn (b : Bool) (v : Byte) : Byte := BitVec.ofBool b ++ v.extractLsb' 1 7

/-- The result of a rotate or shift of `v` with the old carry `c` (R375 to R381). -/
def rotResult (op : RotOp) (v : Byte) (c : Bool) : Byte :=
  match op with
  | .rlc => shiftLeftIn v (v.getLsbD 7)
  | .rrc => shiftRightIn (v.getLsbD 0) v
  | .rl => shiftLeftIn v c
  | .rr => shiftRightIn c v
  | .sla => shiftLeftIn v false
  | .sra => shiftRightIn (v.getLsbD 7) v
  | .srl => shiftRightIn false v

/-- The CB flags of a result with the bit shifted out (R384). -/
def rotFlags (d : Flags) (r : Byte) (c : Bool) : Flags :=
  { d with s := r.msb, z := r == 0, h := false, pv := parity r, n := false, c := c }

/-- The flags of the accumulator rotates (R370 to R373); `S`, `Z` and `PV` are unchanged. -/
def rotAccFlags (d old : Flags) (c : Bool) : Flags :=
  { d with s := old.s, z := old.z, h := false, pv := old.pv, n := false, c := c }

/-- The flags of a value read whose `C` is unchanged: `RLD`, `RRD` (R382, R383) and `IN r,(C)` (R461). -/
def valueFlags (d old : Flags) (r : Byte) : Flags :=
  { d with s := r.msb, z := r == 0, h := false, pv := parity r, n := false, c := old.c }

/-- The flags of `LD A,I` and `LD A,R` (R217, R218): `PV` is IFF2; `C` is unchanged. -/
def loadIrFlags (d old : Flags) (a : Byte) (iff2 : Bool) : Flags :=
  { d with s := a.msb, z := a == 0, h := false, pv := iff2, n := false, c := old.c }

/-- The flags of `BIT b,m` with the bit tested (R400): `S` and `PV` are draws; `C` is unchanged. -/
def bitFlags (d old : Flags) (bit : Bool) : Flags := { d with z := !bit, h := true, n := false, c := old.c }

/-- The flags of a block transfer with the new `BC` (R266, R268); `S`, `Z` and `C` are unchanged. -/
def blockMoveFlags (d old : Flags) (bc : Word) : Flags :=
  { d with s := old.s, z := old.z, h := false, pv := bc != 0, n := false, c := old.c }

/-- The flags of a block search of `v` with the new `BC` (R270, R272); `C` is unchanged. -/
def blockCompareFlags (d old : Flags) (a v : Byte) (bc : Word) : Flags :=
  { d with
    s := (a - v).msb
    z := a - v == 0
    h := decide (lowNibble a < lowNibble v)
    pv := bc != 0
    n := true
    c := old.c }

/-- The block I/O flags with the new `B` (R472): `S`, `H`, `PV` and `C` are draws. -/
def blockIoFlags (d : Flags) (b : Byte) : Flags := { d with z := b == 0, n := true }

/-- Whether a condition holds (R155, R420). -/
def Flags.holds (f : Flags) (cc : Cond) : Bool :=
  match cc with
  | .nz => !f.z
  | .z => f.z
  | .nc => !f.c
  | .c => f.c
  | .po => !f.pv
  | .pe => f.pv
  | .p => !f.s
  | .m => f.s

end Sys2Proof.Machine
end

