-- ==== Sys2Proof/Machine/Ops.lean ====
section
/-! DEFINITION. The named operations over registers, memory, ports and the host, the stack, the accounting of a step, and
taking an interrupt (R504 to R509) with the return from one (R433, R434). -/

namespace Sys2Proof.Machine

/-! ### Memory arrays (log 3) -/

/-- What cell `a` reads as. -/
def Memory.read : Memory → Nat → Byte
  | [], _ => unlistedByte
  | (k, v) :: m, a => if k = a then v else Memory.read m a

/-- The memory with cell `a` not listed. -/
def Memory.erase (m : Memory) (a : Nat) : Memory := m.filter fun c => c.1 != a

/-- The memory with `(a, v)` listed in its place; `a` is not listed in it. -/
def Memory.insert : Memory → Nat → Byte → Memory
  | [], a, v => [(a, v)]
  | (k, w) :: m, a, v => if a < k then (a, v) :: (k, w) :: m else (k, w) :: Memory.insert m a v

/-- The memory after writing `v` to cell `a`. Writing what an unlisted cell reads as removes the entry. -/
def Memory.write (m : Memory) (a : Nat) (v : Byte) : Memory :=
  if v = unlistedByte then Memory.erase m a else Memory.insert (Memory.erase m a) a v

/-! ### The memory map (R89 to R95) -/

/-- What one table entry holds (R90). -/
inductive Target where
  | mon
  | rom (slot page : Nat)
  | ram (block half : Nat)
  | high
  | vapour
  | subpage
deriving DecidableEq, Repr

/-- The entry of an address: `a[15:13]` (R89). -/
def entryOf (a : Word) : Nat := a.toNat / 0x2000

/-- The offset of an address in its entry: `a[12:0]` (R89). -/
def offsetOf (a : Word) : Nat := a.toNat % 0x2000

/-- The cell of RAM that holds offset `o` of half `h` of block `b` (R82). -/
def ramIndex (b h o : Nat) : Nat := b * 0x4000 + h * 0x2000 + o

/-- The cell of the slot ROMs that holds `ROM[s][p][o]` (R53). -/
def romIndex (s p o : Nat) : Nat := (s * 256 + p) * 0x2000 + o

/-- ROM+RAM mode: I/O-byte bit 7 is 0. -/
def State.romRam (s : State) : Bool := !s.ioByte.getLsbD 7

/-- The slot selected by I/O-byte bits 6:4 (R91). -/
def State.slot (s : State) : Nat := s.ioByte.toNat / 16 % 8

/-- The sub-page shown: the sub-page register for slot 2, and 0 for every other slot (R91, R97). -/
def State.page (s : State) : Nat := if s.slot = 2 then s.subPage.toNat else 0

/-- Whether the selected page is installed (R91). -/
def State.pageExists (s : State) : Bool := decide (s.page < s.cfg.nSub.getD s.slot 0)

/-- Whether the selected slot is enabled by the mask (R91). -/
def State.slotEnabled (s : State) : Bool := s.romEnableMask.getLsbD s.slot

/-- `ramMap(ioByte, w)` (R94): the block that backs window `w`, or `none` for unmapped. -/
def State.ramMap (s : State) (w : Nat) : Option Nat := s.cfg.ramEntry s.romRam (s.ioByte.toNat % 16) w

/-- The RAM target of entry `k`, or `unmapped` where the window has no block. -/
def State.ramTarget (s : State) (unmapped : Target) (k : Nat) : Target :=
  match s.ramMap (k / 2) with
  | some b => .ram b (k % 2)
  | none => unmapped

/-- The read table entry `RT[k]` (R91). -/
def State.readTable (s : State) (k : Nat) : Target :=
  if s.romRam && k == 0 then .mon
  else if s.romRam && k == 1 then if s.pageExists && s.slotEnabled then .rom s.slot s.page else .high
  else s.ramTarget .high k

/-- The write table entry `WT[k]` (R92). -/
def State.writeTable (s : State) (k : Nat) : Target :=
  if s.romRam && k == 0 then .subpage
  else if s.romRam && k == 1 then .vapour
  else s.ramTarget .vapour k

/-- The update table entry `UT[k]` (R93). -/
def State.updateTable (s : State) (k : Nat) : Target :=
  if s.romRam && k == 0 then .mon
  else if s.romRam && k == 1 then if s.pageExists then .rom s.slot s.page else .vapour
  else s.ramTarget .vapour k

/-- `setIoByte(v)` (R96). The tables follow at once, since they are computed at every access (R54, R103). -/
def State.setIoByte (s : State) (v : Byte) : State := { s with ioByte := v }

/-- `setRomSubPage(v)` (R97). -/
def State.setRomSubPage (s : State) (v : Byte) : State := { s with subPage := v }

/-- `setRomEnableMask(v)` (R98). -/
def State.setRomEnableMask (s : State) (v : Byte) : State := { s with romEnableMask := v }

/-- The byte at offset `o` of a target, as a read sees it (R82). -/
def State.readTarget (s : State) (t : Target) (o : Nat) : Byte :=
  match t with
  | .mon => s.monitorRom.read o
  | .rom slot page => s.rom.read (romIndex slot page o)
  | .ram b h => s.ram.read (ramIndex b h o)
  | .high | .vapour | .subpage => 0xFF

/-- The state after writing `v` at offset `o` of a target (R84, R100). -/
def State.writeTarget (s : State) (t : Target) (o : Nat) (v : Byte) : State :=
  match t with
  | .mon => { s with monitorRom := s.monitorRom.write o v }
  | .rom slot page => { s with rom := s.rom.write (romIndex slot page o) v }
  | .ram b h => { s with ram := s.ram.write (ramIndex b h o) v }
  | .high | .vapour => s
  | .subpage => s.setRomSubPage v

/-- `MemRead(a, 1)` (R82). -/
def State.readByte (s : State) (a : Word) : Byte := s.readTarget (s.readTable (entryOf a)) (offsetOf a)

/-- `MemWrite(a, 1, v)` (R84). -/
def State.writeByte (s : State) (a : Word) (v : Byte) : State := s.writeTarget (s.writeTable (entryOf a)) (offsetOf a) v

/-- `internalRead(a)` (R100). -/
def State.internalRead (s : State) (a : Word) : Byte := s.readByte a

/-- `internalWrite(a, v)` (R100). -/
def State.internalWrite (s : State) (a : Word) (v : Byte) : State :=
  s.writeTarget (s.updateTable (entryOf a)) (offsetOf a) v

/-- `MemRead(a, 2)` (R83). -/
def State.readWord (s : State) (a : Word) : Word := joinBytes (s.readByte (a + 1)) (s.readByte a)

/-- `MemWrite(a, 2, v)`: the low byte at `a`, then the high byte at `a + 1` (R85). -/
def State.writeWord (s : State) (a : Word) (v : Word) : State :=
  (s.writeByte a (lowByte v)).writeByte (a + 1) (highByte v)

/-! ### Registers -/

def State.setPc (s : State) (v : Word) : State := { s with cpu := { s.cpu with pc := v } }

def State.setSp (s : State) (v : Word) : State := { s with cpu := { s.cpu with sp := v } }

/-- The state with another set of main registers. -/
def State.setMain (s : State) (b : Bank) : State := { s with cpu := { s.cpu with main := b } }

def State.setA (s : State) (v : Byte) : State := s.setMain { s.cpu.main with a := v }

def State.setB (s : State) (v : Byte) : State := s.setMain { s.cpu.main with b := v }

def State.setFlags (s : State) (f : Flags) : State := s.setMain { s.cpu.main with f := f }

/-- The state with PC moved over the instruction's `len` bytes, modulo 2^16 (R151). -/
def State.advance (s : State) (len : Nat) : State := s.setPc (s.cpu.pc + BitVec.ofNat 16 len)

/-! ### Draws (R13, log 1) -/

/-- The next draw, as flags: each flag takes its own bit. -/
def State.drawnFlags (s : State) : Flags := Flags.ofByte (Config.draw s.draws)

/-- The state with one more draw made. -/
def State.nextDraw (s : State) : State := { s with draws := s.draws + 1 }

/-- The flags written by an instruction: `f` of the drawn flags, where `f` names every flag that is no draw (R39). -/
def State.writeFlags (s : State) (f : Flags → Flags) : State := (s.setFlags (f s.drawnFlags)).nextDraw

/-! ### Accounting (R511, R512) -/

/-- Charge `cost` cycles to both counters (R512). -/
def State.charge (s : State) (cost : Nat) : State :=
  { s with iCount := s.iCount - cost, iElapsed := s.iElapsed + cost }

def State.setEiDelay (s : State) (b : Bool) : State := { s with cpu := { s.cpu with eiDelay := b } }

/-- The end of a step that did not execute `EI`: `eiDelay` is cleared and the cost is charged (R502, R511, R512). -/
def State.endStep (s : State) (cost : Nat) : State := (s.setEiDelay false).charge cost

/-- The outcome of a meaning that completes with state `s` and cost `cost`. -/
def State.finish (s : State) (cost : Nat) : Outcome := .next (s.endStep cost)

/-- The end of one iteration of a block instruction (R274): when it repeats, PC goes back over its two bytes and the cost
is 21; when it ends, the cost is 16. -/
def State.iterate (s : State) (again : Bool) : Outcome :=
  if again then (s.setPc (s.cpu.pc - 2)).finish 21 else s.finish 16

/-! ### The host (R540, log 6) -/

/-- Record an event the host sees. -/
def State.emit (s : State) (ev : HostEvent) : State := { s with hostLog := ev :: s.hostLog }

/-- The host's answer to the call `ev`: the next of `hostReplies`, or the free value when none is left. -/
def State.hostReply (s : State) (ev : HostEvent) : HostReply :=
  match s.hostReplies with
  | r :: _ => r
  | [] => Config.hostReply (ev :: s.hostLog)

/-- Latch the requests the host raised during a call (R517). -/
def State.latch (s : State) (r : HostReply) : State :=
  { s with intPending := s.intPending || r.raiseInt, nmiPending := s.nmiPending || r.raiseNmi }

/-- The state after the call `ev`: the call is recorded, its answer consumed, and the requests raised in it latched. -/
def State.afterCall (s : State) (ev : HostEvent) : State :=
  (({ s with hostReplies := s.hostReplies.tail } : State).emit ev).latch (s.hostReply ev)

/-- One thing `patch` does (R332). -/
def State.act (s : State) (x : HostAction) : State :=
  match x with
  | .setCpu regs => { s with cpu := regs }
  | .internalWrite a v => s.internalWrite a v
  | .setIoByte v => s.setIoByte v
  | .setRomSubPage v => s.setRomSubPage v
  | .setRomEnableMask v => s.setRomEnableMask v

/-! ### Ports (R110 to R114) -/

/-- The port address without its high byte: what the dispatcher decodes (R110). -/
def portLow (port : Word) : Byte := lowByte port

/-- `IoRead(port)` in state `s`, of an instruction that began in state `before`; `k` is the rest of the instruction. -/
def State.ioRead (s before : State) (port : Word) (k : Byte → State → Outcome) : Outcome :=
  if s.cfg.portMapIn.contains (portLow port) then
    k (s.hostReply (.hostIn port s.cpu)).value (s.afterCall (.hostIn port s.cpu))
  else
    match s.cfg.portPolicy with
    | .permissive => k s.cfg.dummyInValue (s.emit (.badPort .input port none))
    | .strict => .fault (.badPort before.cpu.pc .input port none before)

/-- `IoWrite(port, v)` in state `s`, of an instruction that began in state `before`; `k` is the rest of the instruction. -/
def State.ioWrite (s before : State) (port : Word) (v : Byte) (k : State → Outcome) : Outcome :=
  if portLow port = s.cfg.ioBytePort then k (s.setIoByte v)
  else if s.cfg.portMapOut.contains (portLow port) then k (s.afterCall (.hostOut port v s.cpu))
  else
    match s.cfg.portPolicy with
    | .permissive => k (s.emit (.badPort .output port (some v)))
    | .strict => .fault (.badPort before.cpu.pc .output port (some v) before)

/-! ### The stack (R86) -/

/-- `Push16(v)`: the high byte at SP - 1, then the low byte at SP - 2. -/
def State.push16 (s : State) (v : Word) : State :=
  let t := (s.setSp (s.cpu.sp - 1)).writeByte (s.cpu.sp - 1) (highByte v)
  (t.setSp (s.cpu.sp - 2)).writeByte (s.cpu.sp - 2) (lowByte v)

/-- The word `Pop16()` returns: the low byte at SP, the high byte at SP + 1. -/
def State.popValue (s : State) : Word := joinBytes (s.readByte (s.cpu.sp + 1)) (s.readByte s.cpu.sp)

/-- The state after `Pop16()`. -/
def State.popped (s : State) : State := s.setSp (s.cpu.sp + 2)

/-! ### Interrupt acceptance and return -/

/-- What every acceptance does, with the interrupt flip-flops it leaves: wake the CPU, mark the service, push PC and jump
(R504, R506, R507, R508). `target` sees the state after the push. -/
def State.takeInterrupt (s : State) (iff1 iff2 : Bool) (target : State → Word) : State :=
  let t := ({ s with cpu := { s.cpu with iff1 := iff1, iff2 := iff2, halted := false, inService := true } } : State).push16
    s.cpu.pc
  t.setPc (target t)

/-- NMI acceptance (R504). -/
def State.acceptNmi (s : State) : State :=
  (({ s with nmiPending := false } : State).takeInterrupt false s.cpu.iff1 (fun _ => 0x0066)).endStep 11

/-- The acceptance of modes 0 and 1 (R506, R507). -/
def State.acceptFixed (s : State) : State :=
  (({ s with intPending := false } : State).takeInterrupt false false (fun _ => 0x0038)).endStep 13

/-- The acceptance of mode 2 with vector `v` (R508): the handler's address is read through the read table after the push. -/
def State.acceptVectored (s : State) (v : Byte) : State :=
  (({ s with intPending := false } : State).takeInterrupt false false (fun t => t.readWord (joinBytes s.cpu.i v))).endStep 19

/-- What a boundary with an acceptable maskable request comes to. -/
inductive Acceptance where
  /-- The request was accepted: the step is over. -/
  | taken (s : State)
  /-- The host declined under the permissive policy: the step goes on to phase 3 (R509). -/
  | declined (s : State)
  /-- The host declined under the strict policy (R509). -/
  | failed (r : Fault)

/-- The declined acknowledge, permissive: the request is dropped and a diagnostic emitted (R509). -/
def State.dropRequest (s : State) : State := ({ s with intPending := false } : State).emit (.ackDeclined s.cpu.pc)

/-- Mode 2: ask the host for the vector, before any state changes (R508, R509). -/
def State.acknowledge (s : State) : Acceptance :=
  let r := s.hostReply (.acknowledge s.cpu)
  let t := s.afterCall (.acknowledge s.cpu)
  if r.accept then .taken (t.acceptVectored r.value)
  else
    match s.cfg.ackPolicy with
    | .permissive => .declined t.dropRequest
    | .strict => .failed (.ackDeclined s.cpu.pc s.cpu.i s)

/-- Maskable acceptance by mode (R505). -/
def State.acceptMaskable (s : State) : Acceptance :=
  match s.cpu.im with
  | .im0 | .im1 => .taken s.acceptFixed
  | .im2 => s.acknowledge

/-- Whether a maskable request is accepted at this boundary, when no NMI is pending (R505). -/
def State.maskableReady (s : State) : Bool := s.intPending && s.cpu.iff1 && !s.cpu.eiDelay

/-- The idle step of a halted CPU (R510). -/
def State.idle (s : State) : State := s.endStep 4

/-- The return from an interrupt: pop PC, `IFF1 <- IFF2`, `inService <- 0` (R433, R434). -/
def State.returnFromInterrupt (s : State) : State :=
  let t := s.popped.setPc s.popValue
  { t with cpu := { t.cpu with iff1 := s.cpu.iff2, inService := false } }

end Sys2Proof.Machine
end

