-- ==== Sys2Proof/Machine/Operands.lean ====
section
/-! DEFINITION. The operand forms: 8-bit registers (R153), register pairs (R31, R154), the index registers, memory
operands, and the sign extension of displacements and offsets (R11, R157). -/

namespace Sys2Proof.Machine

/-- `sext_16(v)` (R11). -/
def sext16 (v : Byte) : Word := v.signExtend 16

/-- Read an 8-bit register (R153). -/
def State.reg8 (s : State) (r : Reg8) : Byte :=
  match r with
  | .b => s.cpu.main.b
  | .c => s.cpu.main.c
  | .d => s.cpu.main.d
  | .e => s.cpu.main.e
  | .h => s.cpu.main.h
  | .l => s.cpu.main.l
  | .a => s.cpu.main.a

/-- Write an 8-bit register (R153). -/
def State.setReg8 (s : State) (r : Reg8) (v : Byte) : State :=
  s.setMain (match r with
    | .b => { s.cpu.main with b := v }
    | .c => { s.cpu.main with c := v }
    | .d => { s.cpu.main with d := v }
    | .e => { s.cpu.main with e := v }
    | .h => { s.cpu.main with h := v }
    | .l => { s.cpu.main with l := v }
    | .a => { s.cpu.main with a := v })

def State.bc (s : State) : Word := joinBytes s.cpu.main.b s.cpu.main.c

def State.de (s : State) : Word := joinBytes s.cpu.main.d s.cpu.main.e

def State.hl (s : State) : Word := joinBytes s.cpu.main.h s.cpu.main.l

/-- `AF = A ++ F` (R31). -/
def State.af (s : State) : Word := joinBytes s.cpu.main.a s.cpu.main.f.toByte

def State.setBc (s : State) (v : Word) : State := s.setMain { s.cpu.main with b := highByte v, c := lowByte v }

def State.setDe (s : State) (v : Word) : State := s.setMain { s.cpu.main with d := highByte v, e := lowByte v }

def State.setHl (s : State) (v : Word) : State := s.setMain { s.cpu.main with h := highByte v, l := lowByte v }

/-- Write AF: all 8 bits of F, exactly (R247). -/
def State.setAf (s : State) (v : Word) : State :=
  s.setMain { s.cpu.main with a := highByte v, f := Flags.ofByte (lowByte v) }

/-- Read a register pair of `rp` (R154). -/
def State.pair (s : State) (p : Pair) : Word :=
  match p with
  | .bc => s.bc
  | .de => s.de
  | .hl => s.hl
  | .sp => s.cpu.sp

/-- Write a register pair of `rp` (R154). -/
def State.setPair (s : State) (p : Pair) (v : Word) : State :=
  match p with
  | .bc => s.setBc v
  | .de => s.setDe v
  | .hl => s.setHl v
  | .sp => s.setSp v

/-- Read a register pair of `rp2` (R154). -/
def State.pairQ (s : State) (q : PairQ) : Word :=
  match q with
  | .bc => s.bc
  | .de => s.de
  | .hl => s.hl
  | .af => s.af

/-- Write a register pair of `rp2` (R154). -/
def State.setPairQ (s : State) (q : PairQ) (v : Word) : State :=
  match q with
  | .bc => s.setBc v
  | .de => s.setDe v
  | .hl => s.setHl v
  | .af => s.setAf v

/-- Read an index register (R33). -/
def State.index (s : State) (x : IndexReg) : Word :=
  match x with
  | .ix => s.cpu.ix
  | .iy => s.cpu.iy

/-- Write an index register (R33). -/
def State.setIndex (s : State) (x : IndexReg) (v : Word) : State :=
  match x with
  | .ix => { s with cpu := { s.cpu with ix := v } }
  | .iy => { s with cpu := { s.cpu with iy := v } }

/-- The address of `(IX+d)` or `(IY+d)` (R157). -/
def State.indexed (s : State) (x : IndexReg) (d : Byte) : Word := s.index x + sext16 d

/-- The pair added by `ADD IX,pp` and `ADD IY,rr`: HL is read as the index register itself (R353, R354). -/
def State.pairFor (s : State) (x : IndexReg) (p : Pair) : Word :=
  match p with
  | .bc => s.bc
  | .de => s.de
  | .hl => s.index x
  | .sp => s.cpu.sp

/-- The flag C (carry in). -/
def State.carry (s : State) : Bool := s.cpu.main.f.c

/-- The flags. -/
def State.flags (s : State) : Flags := s.cpu.main.f

end Sys2Proof.Machine
end

