-- ==== Sys2Proof/Machine/Alu16.lean ====
section
/-! DEFINITION. The 16-bit arithmetic (45_alu16.md). -/

namespace Sys2Proof.Machine

/-- `ADD HL,ss` (R350). -/
def addHl (s : State) (b : Word) (len cost : Nat) : Outcome :=
  (((s.advance len).setHl (add16 s.hl b false)).writeFlags fun d => add16Flags d s.flags s.hl b).finish cost

/-- `ADC HL,ss` (R351). -/
def adcHl (s : State) (b : Word) (len cost : Nat) : Outcome :=
  (((s.advance len).setHl (add16 s.hl b s.carry)).writeFlags fun d => adc16Flags d s.hl b s.carry).finish cost

/-- `SBC HL,ss` (R352). -/
def sbcHl (s : State) (b : Word) (len cost : Nat) : Outcome :=
  (((s.advance len).setHl (sub16 s.hl b s.carry)).writeFlags fun d => sbc16Flags d s.hl b s.carry).finish cost

/-- `ADD IX,pp` and `ADD IY,rr` (R353, R354). -/
def addIndex (s : State) (x : IndexReg) (b : Word) (len cost : Nat) : Outcome :=
  (((s.advance len).setIndex x (add16 (s.index x) b false)).writeFlags
    fun d => add16Flags d s.flags (s.index x) b).finish cost

/-- `INC ss` and `DEC ss`: the new value `v`, no flags (R355, R358). -/
def countPair (s : State) (p : Pair) (v : Word) (len cost : Nat) : Outcome :=
  ((s.advance len).setPair p v).finish cost

/-- `INC` and `DEC` of an index register: the new value `v`, no flags (R356, R357, R359, R360). -/
def countIndex (s : State) (x : IndexReg) (v : Word) (len cost : Nat) : Outcome :=
  ((s.advance len).setIndex x v).finish cost

/-! ### The meanings -/


/-- `INC BC` (R355). -/
def execIncBc (s : State) : Outcome := countPair s .bc (s.pair .bc + 1) 1 6

/-- `ADD HL,BC` (R350). -/
def execAddHlBc (s : State) : Outcome := addHl s (s.pair .bc) 1 11

/-- `DEC BC` (R358). -/
def execDecBc (s : State) : Outcome := countPair s .bc (s.pair .bc - 1) 1 6

/-- `INC DE` (R355). -/
def execIncDe (s : State) : Outcome := countPair s .de (s.pair .de + 1) 1 6

/-- `ADD HL,DE` (R350). -/
def execAddHlDe (s : State) : Outcome := addHl s (s.pair .de) 1 11

/-- `DEC DE` (R358). -/
def execDecDe (s : State) : Outcome := countPair s .de (s.pair .de - 1) 1 6

/-- `INC HL` (R355). -/
def execIncHl (s : State) : Outcome := countPair s .hl (s.pair .hl + 1) 1 6

/-- `ADD HL,HL` (R350). -/
def execAddHlHl (s : State) : Outcome := addHl s (s.pair .hl) 1 11

/-- `DEC HL` (R358). -/
def execDecHl (s : State) : Outcome := countPair s .hl (s.pair .hl - 1) 1 6

/-- `INC SP` (R355). -/
def execIncSp (s : State) : Outcome := countPair s .sp (s.pair .sp + 1) 1 6

/-- `ADD HL,SP` (R350). -/
def execAddHlSp (s : State) : Outcome := addHl s (s.pair .sp) 1 11

/-- `DEC SP` (R358). -/
def execDecSp (s : State) : Outcome := countPair s .sp (s.pair .sp - 1) 1 6

/-- `SBC HL,BC` (R352). -/
def execSbcHlBc (s : State) : Outcome := sbcHl s (s.pair .bc) 2 15

/-- `ADC HL,BC` (R351). -/
def execAdcHlBc (s : State) : Outcome := adcHl s (s.pair .bc) 2 15

/-- `SBC HL,DE` (R352). -/
def execSbcHlDe (s : State) : Outcome := sbcHl s (s.pair .de) 2 15

/-- `ADC HL,DE` (R351). -/
def execAdcHlDe (s : State) : Outcome := adcHl s (s.pair .de) 2 15

/-- `SBC HL,HL` (R352). -/
def execSbcHlHl (s : State) : Outcome := sbcHl s (s.pair .hl) 2 15

/-- `ADC HL,HL` (R351). -/
def execAdcHlHl (s : State) : Outcome := adcHl s (s.pair .hl) 2 15

/-- `SBC HL,SP` (R352). -/
def execSbcHlSp (s : State) : Outcome := sbcHl s (s.pair .sp) 2 15

/-- `ADC HL,SP` (R351). -/
def execAdcHlSp (s : State) : Outcome := adcHl s (s.pair .sp) 2 15

/-- `ADD IX,BC` (R353). -/
def execAddIxBc (s : State) : Outcome := addIndex s .ix (s.pairFor .ix .bc) 2 15

/-- `ADD IX,DE` (R353). -/
def execAddIxDe (s : State) : Outcome := addIndex s .ix (s.pairFor .ix .de) 2 15

/-- `INC IX` (R356). -/
def execIncIx (s : State) : Outcome := countIndex s .ix (s.index .ix + 1) 2 10

/-- `ADD IX,IX` (R353). -/
def execAddIxIx (s : State) : Outcome := addIndex s .ix (s.pairFor .ix .hl) 2 15

/-- `DEC IX` (R359). -/
def execDecIx (s : State) : Outcome := countIndex s .ix (s.index .ix - 1) 2 10

/-- `ADD IX,SP` (R353). -/
def execAddIxSp (s : State) : Outcome := addIndex s .ix (s.pairFor .ix .sp) 2 15

/-- `ADD IY,BC` (R354). -/
def execAddIyBc (s : State) : Outcome := addIndex s .iy (s.pairFor .iy .bc) 2 15

/-- `ADD IY,DE` (R354). -/
def execAddIyDe (s : State) : Outcome := addIndex s .iy (s.pairFor .iy .de) 2 15

/-- `INC IY` (R357). -/
def execIncIy (s : State) : Outcome := countIndex s .iy (s.index .iy + 1) 2 10

/-- `ADD IY,IY` (R354). -/
def execAddIyIy (s : State) : Outcome := addIndex s .iy (s.pairFor .iy .hl) 2 15

/-- `DEC IY` (R360). -/
def execDecIy (s : State) : Outcome := countIndex s .iy (s.index .iy - 1) 2 10

/-- `ADD IY,SP` (R354). -/
def execAddIySp (s : State) : Outcome := addIndex s .iy (s.pairFor .iy .sp) 2 15

end Sys2Proof.Machine
end

