-- ==== Sys2Proof/Machine/Alu8.lean ====
section
/-! DEFINITION. The 8-bit arithmetic and logic (43_alu8.md). -/

namespace Sys2Proof.Machine

/-- An 8-bit operation on A and the source `v` (R290 to R299). -/
def aluA (s : State) (op : AluOp) (v : Byte) (len cost : Nat) : Outcome :=
  (((s.advance len).setA (aluResult op s.cpu.main.a v s.carry)).writeFlags
    fun d => aluFlags op d s.cpu.main.a v s.carry).finish cost

/-- `INC r` (R300). -/
def incRegister (s : State) (r : Reg8) (len cost : Nat) : Outcome :=
  (((s.advance len).setReg8 r (s.reg8 r + 1)).writeFlags fun d => inc8Flags d s.flags (s.reg8 r)).finish cost

/-- `DEC r` (R301). -/
def decRegister (s : State) (r : Reg8) (len cost : Nat) : Outcome :=
  (((s.advance len).setReg8 r (s.reg8 r - 1)).writeFlags fun d => dec8Flags d s.flags (s.reg8 r)).finish cost

/-- `INC` of the byte at `a`: one read, one write at the same address (R300). -/
def incMemory (s : State) (a : Word) (len cost : Nat) : Outcome :=
  (((s.advance len).writeByte a (s.readByte a + 1)).writeFlags fun d => inc8Flags d s.flags (s.readByte a)).finish cost

/-- `DEC` of the byte at `a` (R301). -/
def decMemory (s : State) (a : Word) (len cost : Nat) : Outcome :=
  (((s.advance len).writeByte a (s.readByte a - 1)).writeFlags fun d => dec8Flags d s.flags (s.readByte a)).finish cost

/-! ### The meanings -/


/-- `INC B` (R300). -/
def execIncB (s : State) : Outcome := incRegister s .b 1 4

/-- `DEC B` (R301). -/
def execDecB (s : State) : Outcome := decRegister s .b 1 4

/-- `INC C` (R300). -/
def execIncC (s : State) : Outcome := incRegister s .c 1 4

/-- `DEC C` (R301). -/
def execDecC (s : State) : Outcome := decRegister s .c 1 4

/-- `INC D` (R300). -/
def execIncD (s : State) : Outcome := incRegister s .d 1 4

/-- `DEC D` (R301). -/
def execDecD (s : State) : Outcome := decRegister s .d 1 4

/-- `INC E` (R300). -/
def execIncE (s : State) : Outcome := incRegister s .e 1 4

/-- `DEC E` (R301). -/
def execDecE (s : State) : Outcome := decRegister s .e 1 4

/-- `INC H` (R300). -/
def execIncH (s : State) : Outcome := incRegister s .h 1 4

/-- `DEC H` (R301). -/
def execDecH (s : State) : Outcome := decRegister s .h 1 4

/-- `INC L` (R300). -/
def execIncL (s : State) : Outcome := incRegister s .l 1 4

/-- `DEC L` (R301). -/
def execDecL (s : State) : Outcome := decRegister s .l 1 4

/-- `INC (HL)` (R300). -/
def execIncMemHl (s : State) : Outcome := incMemory s s.hl 1 11

/-- `DEC (HL)` (R301). -/
def execDecMemHl (s : State) : Outcome := decMemory s s.hl 1 11

/-- `INC A` (R300). -/
def execIncA (s : State) : Outcome := incRegister s .a 1 4

/-- `DEC A` (R301). -/
def execDecA (s : State) : Outcome := decRegister s .a 1 4

/-- `ADD A,B` (R292). -/
def execAddAB (s : State) : Outcome := aluA s .add (s.reg8 .b) 1 4

/-- `ADD A,C` (R292). -/
def execAddAC (s : State) : Outcome := aluA s .add (s.reg8 .c) 1 4

/-- `ADD A,D` (R292). -/
def execAddAD (s : State) : Outcome := aluA s .add (s.reg8 .d) 1 4

/-- `ADD A,E` (R292). -/
def execAddAE (s : State) : Outcome := aluA s .add (s.reg8 .e) 1 4

/-- `ADD A,H` (R292). -/
def execAddAH (s : State) : Outcome := aluA s .add (s.reg8 .h) 1 4

/-- `ADD A,L` (R292). -/
def execAddAL (s : State) : Outcome := aluA s .add (s.reg8 .l) 1 4

/-- `ADD A,(HL)` (R292). -/
def execAddAMemHl (s : State) : Outcome := aluA s .add (s.readByte s.hl) 1 7

/-- `ADD A,A` (R292). -/
def execAddAA (s : State) : Outcome := aluA s .add (s.reg8 .a) 1 4

/-- `ADC A,B` (R293). -/
def execAdcAB (s : State) : Outcome := aluA s .adc (s.reg8 .b) 1 4

/-- `ADC A,C` (R293). -/
def execAdcAC (s : State) : Outcome := aluA s .adc (s.reg8 .c) 1 4

/-- `ADC A,D` (R293). -/
def execAdcAD (s : State) : Outcome := aluA s .adc (s.reg8 .d) 1 4

/-- `ADC A,E` (R293). -/
def execAdcAE (s : State) : Outcome := aluA s .adc (s.reg8 .e) 1 4

/-- `ADC A,H` (R293). -/
def execAdcAH (s : State) : Outcome := aluA s .adc (s.reg8 .h) 1 4

/-- `ADC A,L` (R293). -/
def execAdcAL (s : State) : Outcome := aluA s .adc (s.reg8 .l) 1 4

/-- `ADC A,(HL)` (R293). -/
def execAdcAMemHl (s : State) : Outcome := aluA s .adc (s.readByte s.hl) 1 7

/-- `ADC A,A` (R293). -/
def execAdcAA (s : State) : Outcome := aluA s .adc (s.reg8 .a) 1 4

/-- `SUB B` (R294). -/
def execSubB (s : State) : Outcome := aluA s .sub (s.reg8 .b) 1 4

/-- `SUB C` (R294). -/
def execSubC (s : State) : Outcome := aluA s .sub (s.reg8 .c) 1 4

/-- `SUB D` (R294). -/
def execSubD (s : State) : Outcome := aluA s .sub (s.reg8 .d) 1 4

/-- `SUB E` (R294). -/
def execSubE (s : State) : Outcome := aluA s .sub (s.reg8 .e) 1 4

/-- `SUB H` (R294). -/
def execSubH (s : State) : Outcome := aluA s .sub (s.reg8 .h) 1 4

/-- `SUB L` (R294). -/
def execSubL (s : State) : Outcome := aluA s .sub (s.reg8 .l) 1 4

/-- `SUB (HL)` (R294). -/
def execSubMemHl (s : State) : Outcome := aluA s .sub (s.readByte s.hl) 1 7

/-- `SUB A` (R294). -/
def execSubA (s : State) : Outcome := aluA s .sub (s.reg8 .a) 1 4

/-- `SBC A,B` (R295). -/
def execSbcAB (s : State) : Outcome := aluA s .sbc (s.reg8 .b) 1 4

/-- `SBC A,C` (R295). -/
def execSbcAC (s : State) : Outcome := aluA s .sbc (s.reg8 .c) 1 4

/-- `SBC A,D` (R295). -/
def execSbcAD (s : State) : Outcome := aluA s .sbc (s.reg8 .d) 1 4

/-- `SBC A,E` (R295). -/
def execSbcAE (s : State) : Outcome := aluA s .sbc (s.reg8 .e) 1 4

/-- `SBC A,H` (R295). -/
def execSbcAH (s : State) : Outcome := aluA s .sbc (s.reg8 .h) 1 4

/-- `SBC A,L` (R295). -/
def execSbcAL (s : State) : Outcome := aluA s .sbc (s.reg8 .l) 1 4

/-- `SBC A,(HL)` (R295). -/
def execSbcAMemHl (s : State) : Outcome := aluA s .sbc (s.readByte s.hl) 1 7

/-- `SBC A,A` (R295). -/
def execSbcAA (s : State) : Outcome := aluA s .sbc (s.reg8 .a) 1 4

/-- `AND B` (R296). -/
def execAndB (s : State) : Outcome := aluA s .and (s.reg8 .b) 1 4

/-- `AND C` (R296). -/
def execAndC (s : State) : Outcome := aluA s .and (s.reg8 .c) 1 4

/-- `AND D` (R296). -/
def execAndD (s : State) : Outcome := aluA s .and (s.reg8 .d) 1 4

/-- `AND E` (R296). -/
def execAndE (s : State) : Outcome := aluA s .and (s.reg8 .e) 1 4

/-- `AND H` (R296). -/
def execAndH (s : State) : Outcome := aluA s .and (s.reg8 .h) 1 4

/-- `AND L` (R296). -/
def execAndL (s : State) : Outcome := aluA s .and (s.reg8 .l) 1 4

/-- `AND (HL)` (R296). -/
def execAndMemHl (s : State) : Outcome := aluA s .and (s.readByte s.hl) 1 7

/-- `AND A` (R296). -/
def execAndA (s : State) : Outcome := aluA s .and (s.reg8 .a) 1 4

/-- `XOR B` (R298). -/
def execXorB (s : State) : Outcome := aluA s .xor (s.reg8 .b) 1 4

/-- `XOR C` (R298). -/
def execXorC (s : State) : Outcome := aluA s .xor (s.reg8 .c) 1 4

/-- `XOR D` (R298). -/
def execXorD (s : State) : Outcome := aluA s .xor (s.reg8 .d) 1 4

/-- `XOR E` (R298). -/
def execXorE (s : State) : Outcome := aluA s .xor (s.reg8 .e) 1 4

/-- `XOR H` (R298). -/
def execXorH (s : State) : Outcome := aluA s .xor (s.reg8 .h) 1 4

/-- `XOR L` (R298). -/
def execXorL (s : State) : Outcome := aluA s .xor (s.reg8 .l) 1 4

/-- `XOR (HL)` (R298). -/
def execXorMemHl (s : State) : Outcome := aluA s .xor (s.readByte s.hl) 1 7

/-- `XOR A` (R298). -/
def execXorA (s : State) : Outcome := aluA s .xor (s.reg8 .a) 1 4

/-- `OR B` (R297). -/
def execOrB (s : State) : Outcome := aluA s .or (s.reg8 .b) 1 4

/-- `OR C` (R297). -/
def execOrC (s : State) : Outcome := aluA s .or (s.reg8 .c) 1 4

/-- `OR D` (R297). -/
def execOrD (s : State) : Outcome := aluA s .or (s.reg8 .d) 1 4

/-- `OR E` (R297). -/
def execOrE (s : State) : Outcome := aluA s .or (s.reg8 .e) 1 4

/-- `OR H` (R297). -/
def execOrH (s : State) : Outcome := aluA s .or (s.reg8 .h) 1 4

/-- `OR L` (R297). -/
def execOrL (s : State) : Outcome := aluA s .or (s.reg8 .l) 1 4

/-- `OR (HL)` (R297). -/
def execOrMemHl (s : State) : Outcome := aluA s .or (s.readByte s.hl) 1 7

/-- `OR A` (R297). -/
def execOrA (s : State) : Outcome := aluA s .or (s.reg8 .a) 1 4

/-- `CP B` (R299). -/
def execCpB (s : State) : Outcome := aluA s .cp (s.reg8 .b) 1 4

/-- `CP C` (R299). -/
def execCpC (s : State) : Outcome := aluA s .cp (s.reg8 .c) 1 4

/-- `CP D` (R299). -/
def execCpD (s : State) : Outcome := aluA s .cp (s.reg8 .d) 1 4

/-- `CP E` (R299). -/
def execCpE (s : State) : Outcome := aluA s .cp (s.reg8 .e) 1 4

/-- `CP H` (R299). -/
def execCpH (s : State) : Outcome := aluA s .cp (s.reg8 .h) 1 4

/-- `CP L` (R299). -/
def execCpL (s : State) : Outcome := aluA s .cp (s.reg8 .l) 1 4

/-- `CP (HL)` (R299). -/
def execCpMemHl (s : State) : Outcome := aluA s .cp (s.readByte s.hl) 1 7

/-- `CP A` (R299). -/
def execCpA (s : State) : Outcome := aluA s .cp (s.reg8 .a) 1 4

/-- `ADD A,n` (R292). -/
def execAddAN (n : Byte) (s : State) : Outcome := aluA s .add n 2 7

/-- `ADC A,n` (R293). -/
def execAdcAN (n : Byte) (s : State) : Outcome := aluA s .adc n 2 7

/-- `SUB n` (R294). -/
def execSubN (n : Byte) (s : State) : Outcome := aluA s .sub n 2 7

/-- `SBC A,n` (R295). -/
def execSbcAN (n : Byte) (s : State) : Outcome := aluA s .sbc n 2 7

/-- `AND n` (R296). -/
def execAndN (n : Byte) (s : State) : Outcome := aluA s .and n 2 7

/-- `XOR n` (R298). -/
def execXorN (n : Byte) (s : State) : Outcome := aluA s .xor n 2 7

/-- `OR n` (R297). -/
def execOrN (n : Byte) (s : State) : Outcome := aluA s .or n 2 7

/-- `CP n` (R299). -/
def execCpN (n : Byte) (s : State) : Outcome := aluA s .cp n 2 7

/-- `INC (IX+d)` (R300). -/
def execIncMemIxd (d : Byte) (s : State) : Outcome := incMemory s (s.indexed .ix d) 3 23

/-- `DEC (IX+d)` (R301). -/
def execDecMemIxd (d : Byte) (s : State) : Outcome := decMemory s (s.indexed .ix d) 3 23

/-- `ADD A,(IX+d)` (R292). -/
def execAddAMemIxd (d : Byte) (s : State) : Outcome := aluA s .add (s.readByte (s.indexed .ix d)) 3 19

/-- `ADC A,(IX+d)` (R293). -/
def execAdcAMemIxd (d : Byte) (s : State) : Outcome := aluA s .adc (s.readByte (s.indexed .ix d)) 3 19

/-- `SUB (IX+d)` (R294). -/
def execSubMemIxd (d : Byte) (s : State) : Outcome := aluA s .sub (s.readByte (s.indexed .ix d)) 3 19

/-- `SBC A,(IX+d)` (R295). -/
def execSbcAMemIxd (d : Byte) (s : State) : Outcome := aluA s .sbc (s.readByte (s.indexed .ix d)) 3 19

/-- `AND (IX+d)` (R296). -/
def execAndMemIxd (d : Byte) (s : State) : Outcome := aluA s .and (s.readByte (s.indexed .ix d)) 3 19

/-- `XOR (IX+d)` (R298). -/
def execXorMemIxd (d : Byte) (s : State) : Outcome := aluA s .xor (s.readByte (s.indexed .ix d)) 3 19

/-- `OR (IX+d)` (R297). -/
def execOrMemIxd (d : Byte) (s : State) : Outcome := aluA s .or (s.readByte (s.indexed .ix d)) 3 19

/-- `CP (IX+d)` (R299). -/
def execCpMemIxd (d : Byte) (s : State) : Outcome := aluA s .cp (s.readByte (s.indexed .ix d)) 3 19

/-- `INC (IY+d)` (R300). -/
def execIncMemIyd (d : Byte) (s : State) : Outcome := incMemory s (s.indexed .iy d) 3 23

/-- `DEC (IY+d)` (R301). -/
def execDecMemIyd (d : Byte) (s : State) : Outcome := decMemory s (s.indexed .iy d) 3 23

/-- `ADD A,(IY+d)` (R292). -/
def execAddAMemIyd (d : Byte) (s : State) : Outcome := aluA s .add (s.readByte (s.indexed .iy d)) 3 19

/-- `ADC A,(IY+d)` (R293). -/
def execAdcAMemIyd (d : Byte) (s : State) : Outcome := aluA s .adc (s.readByte (s.indexed .iy d)) 3 19

/-- `SUB (IY+d)` (R294). -/
def execSubMemIyd (d : Byte) (s : State) : Outcome := aluA s .sub (s.readByte (s.indexed .iy d)) 3 19

/-- `SBC A,(IY+d)` (R295). -/
def execSbcAMemIyd (d : Byte) (s : State) : Outcome := aluA s .sbc (s.readByte (s.indexed .iy d)) 3 19

/-- `AND (IY+d)` (R296). -/
def execAndMemIyd (d : Byte) (s : State) : Outcome := aluA s .and (s.readByte (s.indexed .iy d)) 3 19

/-- `XOR (IY+d)` (R298). -/
def execXorMemIyd (d : Byte) (s : State) : Outcome := aluA s .xor (s.readByte (s.indexed .iy d)) 3 19

/-- `OR (IY+d)` (R297). -/
def execOrMemIyd (d : Byte) (s : State) : Outcome := aluA s .or (s.readByte (s.indexed .iy d)) 3 19

/-- `CP (IY+d)` (R299). -/
def execCpMemIyd (d : Byte) (s : State) : Outcome := aluA s .cp (s.readByte (s.indexed .iy d)) 3 19

end Sys2Proof.Machine
end

