-- ==== Sys2Proof/Machine/BitOps.lean ====
section
/-! DEFINITION. Bit test, set and reset (47_bit.md). -/

namespace Sys2Proof.Machine

/-- `BIT b,m` with the operand's value `v` (R400). -/
def testBit (s : State) (v : Byte) (b len cost : Nat) : Outcome :=
  ((s.advance len).writeFlags fun d => bitFlags d s.flags (v.getLsbD b)).finish cost

/-- `v | (1 << b)` (R401). -/
def withBit (b : Nat) (v : Byte) : Byte := v ||| ((1 : Byte) <<< b)

/-- `v & ~(1 << b)` (R402). -/
def withoutBit (b : Nat) (v : Byte) : Byte := v &&& ~~~((1 : Byte) <<< b)

/-- `SET` and `RES` of a register: no flags (R401, R402). -/
def changeReg (s : State) (r : Reg8) (f : Byte → Byte) (len cost : Nat) : Outcome :=
  ((s.advance len).setReg8 r (f (s.reg8 r))).finish cost

/-- `SET` and `RES` of the byte at `a`: one read, one write at the same address, no flags (R374, R401, R402). -/
def changeMem (s : State) (a : Word) (f : Byte → Byte) (len cost : Nat) : Outcome :=
  ((s.advance len).writeByte a (f (s.readByte a))).finish cost

/-! ### The meanings -/


/-- `BIT 0,B` (R400). -/
def execBit0B (s : State) : Outcome := testBit s (s.reg8 .b) 0 2 8

/-- `BIT 0,C` (R400). -/
def execBit0C (s : State) : Outcome := testBit s (s.reg8 .c) 0 2 8

/-- `BIT 0,D` (R400). -/
def execBit0D (s : State) : Outcome := testBit s (s.reg8 .d) 0 2 8

/-- `BIT 0,E` (R400). -/
def execBit0E (s : State) : Outcome := testBit s (s.reg8 .e) 0 2 8

/-- `BIT 0,H` (R400). -/
def execBit0H (s : State) : Outcome := testBit s (s.reg8 .h) 0 2 8

/-- `BIT 0,L` (R400). -/
def execBit0L (s : State) : Outcome := testBit s (s.reg8 .l) 0 2 8

/-- `BIT 0,(HL)` (R400). -/
def execBit0MemHl (s : State) : Outcome := testBit s (s.readByte s.hl) 0 2 12

/-- `BIT 0,A` (R400). -/
def execBit0A (s : State) : Outcome := testBit s (s.reg8 .a) 0 2 8

/-- `BIT 1,B` (R400). -/
def execBit1B (s : State) : Outcome := testBit s (s.reg8 .b) 1 2 8

/-- `BIT 1,C` (R400). -/
def execBit1C (s : State) : Outcome := testBit s (s.reg8 .c) 1 2 8

/-- `BIT 1,D` (R400). -/
def execBit1D (s : State) : Outcome := testBit s (s.reg8 .d) 1 2 8

/-- `BIT 1,E` (R400). -/
def execBit1E (s : State) : Outcome := testBit s (s.reg8 .e) 1 2 8

/-- `BIT 1,H` (R400). -/
def execBit1H (s : State) : Outcome := testBit s (s.reg8 .h) 1 2 8

/-- `BIT 1,L` (R400). -/
def execBit1L (s : State) : Outcome := testBit s (s.reg8 .l) 1 2 8

/-- `BIT 1,(HL)` (R400). -/
def execBit1MemHl (s : State) : Outcome := testBit s (s.readByte s.hl) 1 2 12

/-- `BIT 1,A` (R400). -/
def execBit1A (s : State) : Outcome := testBit s (s.reg8 .a) 1 2 8

/-- `BIT 2,B` (R400). -/
def execBit2B (s : State) : Outcome := testBit s (s.reg8 .b) 2 2 8

/-- `BIT 2,C` (R400). -/
def execBit2C (s : State) : Outcome := testBit s (s.reg8 .c) 2 2 8

/-- `BIT 2,D` (R400). -/
def execBit2D (s : State) : Outcome := testBit s (s.reg8 .d) 2 2 8

/-- `BIT 2,E` (R400). -/
def execBit2E (s : State) : Outcome := testBit s (s.reg8 .e) 2 2 8

/-- `BIT 2,H` (R400). -/
def execBit2H (s : State) : Outcome := testBit s (s.reg8 .h) 2 2 8

/-- `BIT 2,L` (R400). -/
def execBit2L (s : State) : Outcome := testBit s (s.reg8 .l) 2 2 8

/-- `BIT 2,(HL)` (R400). -/
def execBit2MemHl (s : State) : Outcome := testBit s (s.readByte s.hl) 2 2 12

/-- `BIT 2,A` (R400). -/
def execBit2A (s : State) : Outcome := testBit s (s.reg8 .a) 2 2 8

/-- `BIT 3,B` (R400). -/
def execBit3B (s : State) : Outcome := testBit s (s.reg8 .b) 3 2 8

/-- `BIT 3,C` (R400). -/
def execBit3C (s : State) : Outcome := testBit s (s.reg8 .c) 3 2 8

/-- `BIT 3,D` (R400). -/
def execBit3D (s : State) : Outcome := testBit s (s.reg8 .d) 3 2 8

/-- `BIT 3,E` (R400). -/
def execBit3E (s : State) : Outcome := testBit s (s.reg8 .e) 3 2 8

/-- `BIT 3,H` (R400). -/
def execBit3H (s : State) : Outcome := testBit s (s.reg8 .h) 3 2 8

/-- `BIT 3,L` (R400). -/
def execBit3L (s : State) : Outcome := testBit s (s.reg8 .l) 3 2 8

/-- `BIT 3,(HL)` (R400). -/
def execBit3MemHl (s : State) : Outcome := testBit s (s.readByte s.hl) 3 2 12

/-- `BIT 3,A` (R400). -/
def execBit3A (s : State) : Outcome := testBit s (s.reg8 .a) 3 2 8

/-- `BIT 4,B` (R400). -/
def execBit4B (s : State) : Outcome := testBit s (s.reg8 .b) 4 2 8

/-- `BIT 4,C` (R400). -/
def execBit4C (s : State) : Outcome := testBit s (s.reg8 .c) 4 2 8

/-- `BIT 4,D` (R400). -/
def execBit4D (s : State) : Outcome := testBit s (s.reg8 .d) 4 2 8

/-- `BIT 4,E` (R400). -/
def execBit4E (s : State) : Outcome := testBit s (s.reg8 .e) 4 2 8

/-- `BIT 4,H` (R400). -/
def execBit4H (s : State) : Outcome := testBit s (s.reg8 .h) 4 2 8

/-- `BIT 4,L` (R400). -/
def execBit4L (s : State) : Outcome := testBit s (s.reg8 .l) 4 2 8

/-- `BIT 4,(HL)` (R400). -/
def execBit4MemHl (s : State) : Outcome := testBit s (s.readByte s.hl) 4 2 12

/-- `BIT 4,A` (R400). -/
def execBit4A (s : State) : Outcome := testBit s (s.reg8 .a) 4 2 8

/-- `BIT 5,B` (R400). -/
def execBit5B (s : State) : Outcome := testBit s (s.reg8 .b) 5 2 8

/-- `BIT 5,C` (R400). -/
def execBit5C (s : State) : Outcome := testBit s (s.reg8 .c) 5 2 8

/-- `BIT 5,D` (R400). -/
def execBit5D (s : State) : Outcome := testBit s (s.reg8 .d) 5 2 8

/-- `BIT 5,E` (R400). -/
def execBit5E (s : State) : Outcome := testBit s (s.reg8 .e) 5 2 8

/-- `BIT 5,H` (R400). -/
def execBit5H (s : State) : Outcome := testBit s (s.reg8 .h) 5 2 8

/-- `BIT 5,L` (R400). -/
def execBit5L (s : State) : Outcome := testBit s (s.reg8 .l) 5 2 8

/-- `BIT 5,(HL)` (R400). -/
def execBit5MemHl (s : State) : Outcome := testBit s (s.readByte s.hl) 5 2 12

/-- `BIT 5,A` (R400). -/
def execBit5A (s : State) : Outcome := testBit s (s.reg8 .a) 5 2 8

/-- `BIT 6,B` (R400). -/
def execBit6B (s : State) : Outcome := testBit s (s.reg8 .b) 6 2 8

/-- `BIT 6,C` (R400). -/
def execBit6C (s : State) : Outcome := testBit s (s.reg8 .c) 6 2 8

/-- `BIT 6,D` (R400). -/
def execBit6D (s : State) : Outcome := testBit s (s.reg8 .d) 6 2 8

/-- `BIT 6,E` (R400). -/
def execBit6E (s : State) : Outcome := testBit s (s.reg8 .e) 6 2 8

/-- `BIT 6,H` (R400). -/
def execBit6H (s : State) : Outcome := testBit s (s.reg8 .h) 6 2 8

/-- `BIT 6,L` (R400). -/
def execBit6L (s : State) : Outcome := testBit s (s.reg8 .l) 6 2 8

/-- `BIT 6,(HL)` (R400). -/
def execBit6MemHl (s : State) : Outcome := testBit s (s.readByte s.hl) 6 2 12

/-- `BIT 6,A` (R400). -/
def execBit6A (s : State) : Outcome := testBit s (s.reg8 .a) 6 2 8

/-- `BIT 7,B` (R400). -/
def execBit7B (s : State) : Outcome := testBit s (s.reg8 .b) 7 2 8

/-- `BIT 7,C` (R400). -/
def execBit7C (s : State) : Outcome := testBit s (s.reg8 .c) 7 2 8

/-- `BIT 7,D` (R400). -/
def execBit7D (s : State) : Outcome := testBit s (s.reg8 .d) 7 2 8

/-- `BIT 7,E` (R400). -/
def execBit7E (s : State) : Outcome := testBit s (s.reg8 .e) 7 2 8

/-- `BIT 7,H` (R400). -/
def execBit7H (s : State) : Outcome := testBit s (s.reg8 .h) 7 2 8

/-- `BIT 7,L` (R400). -/
def execBit7L (s : State) : Outcome := testBit s (s.reg8 .l) 7 2 8

/-- `BIT 7,(HL)` (R400). -/
def execBit7MemHl (s : State) : Outcome := testBit s (s.readByte s.hl) 7 2 12

/-- `BIT 7,A` (R400). -/
def execBit7A (s : State) : Outcome := testBit s (s.reg8 .a) 7 2 8

/-- `RES 0,B` (R402). -/
def execRes0B (s : State) : Outcome := changeReg s .b (withoutBit 0) 2 8

/-- `RES 0,C` (R402). -/
def execRes0C (s : State) : Outcome := changeReg s .c (withoutBit 0) 2 8

/-- `RES 0,D` (R402). -/
def execRes0D (s : State) : Outcome := changeReg s .d (withoutBit 0) 2 8

/-- `RES 0,E` (R402). -/
def execRes0E (s : State) : Outcome := changeReg s .e (withoutBit 0) 2 8

/-- `RES 0,H` (R402). -/
def execRes0H (s : State) : Outcome := changeReg s .h (withoutBit 0) 2 8

/-- `RES 0,L` (R402). -/
def execRes0L (s : State) : Outcome := changeReg s .l (withoutBit 0) 2 8

/-- `RES 0,(HL)` (R402). -/
def execRes0MemHl (s : State) : Outcome := changeMem s s.hl (withoutBit 0) 2 15

/-- `RES 0,A` (R402). -/
def execRes0A (s : State) : Outcome := changeReg s .a (withoutBit 0) 2 8

/-- `RES 1,B` (R402). -/
def execRes1B (s : State) : Outcome := changeReg s .b (withoutBit 1) 2 8

/-- `RES 1,C` (R402). -/
def execRes1C (s : State) : Outcome := changeReg s .c (withoutBit 1) 2 8

/-- `RES 1,D` (R402). -/
def execRes1D (s : State) : Outcome := changeReg s .d (withoutBit 1) 2 8

/-- `RES 1,E` (R402). -/
def execRes1E (s : State) : Outcome := changeReg s .e (withoutBit 1) 2 8

/-- `RES 1,H` (R402). -/
def execRes1H (s : State) : Outcome := changeReg s .h (withoutBit 1) 2 8

/-- `RES 1,L` (R402). -/
def execRes1L (s : State) : Outcome := changeReg s .l (withoutBit 1) 2 8

/-- `RES 1,(HL)` (R402). -/
def execRes1MemHl (s : State) : Outcome := changeMem s s.hl (withoutBit 1) 2 15

/-- `RES 1,A` (R402). -/
def execRes1A (s : State) : Outcome := changeReg s .a (withoutBit 1) 2 8

/-- `RES 2,B` (R402). -/
def execRes2B (s : State) : Outcome := changeReg s .b (withoutBit 2) 2 8

/-- `RES 2,C` (R402). -/
def execRes2C (s : State) : Outcome := changeReg s .c (withoutBit 2) 2 8

/-- `RES 2,D` (R402). -/
def execRes2D (s : State) : Outcome := changeReg s .d (withoutBit 2) 2 8

/-- `RES 2,E` (R402). -/
def execRes2E (s : State) : Outcome := changeReg s .e (withoutBit 2) 2 8

/-- `RES 2,H` (R402). -/
def execRes2H (s : State) : Outcome := changeReg s .h (withoutBit 2) 2 8

/-- `RES 2,L` (R402). -/
def execRes2L (s : State) : Outcome := changeReg s .l (withoutBit 2) 2 8

/-- `RES 2,(HL)` (R402). -/
def execRes2MemHl (s : State) : Outcome := changeMem s s.hl (withoutBit 2) 2 15

/-- `RES 2,A` (R402). -/
def execRes2A (s : State) : Outcome := changeReg s .a (withoutBit 2) 2 8

/-- `RES 3,B` (R402). -/
def execRes3B (s : State) : Outcome := changeReg s .b (withoutBit 3) 2 8

/-- `RES 3,C` (R402). -/
def execRes3C (s : State) : Outcome := changeReg s .c (withoutBit 3) 2 8

/-- `RES 3,D` (R402). -/
def execRes3D (s : State) : Outcome := changeReg s .d (withoutBit 3) 2 8

/-- `RES 3,E` (R402). -/
def execRes3E (s : State) : Outcome := changeReg s .e (withoutBit 3) 2 8

/-- `RES 3,H` (R402). -/
def execRes3H (s : State) : Outcome := changeReg s .h (withoutBit 3) 2 8

/-- `RES 3,L` (R402). -/
def execRes3L (s : State) : Outcome := changeReg s .l (withoutBit 3) 2 8

/-- `RES 3,(HL)` (R402). -/
def execRes3MemHl (s : State) : Outcome := changeMem s s.hl (withoutBit 3) 2 15

/-- `RES 3,A` (R402). -/
def execRes3A (s : State) : Outcome := changeReg s .a (withoutBit 3) 2 8

/-- `RES 4,B` (R402). -/
def execRes4B (s : State) : Outcome := changeReg s .b (withoutBit 4) 2 8

/-- `RES 4,C` (R402). -/
def execRes4C (s : State) : Outcome := changeReg s .c (withoutBit 4) 2 8

/-- `RES 4,D` (R402). -/
def execRes4D (s : State) : Outcome := changeReg s .d (withoutBit 4) 2 8

/-- `RES 4,E` (R402). -/
def execRes4E (s : State) : Outcome := changeReg s .e (withoutBit 4) 2 8

/-- `RES 4,H` (R402). -/
def execRes4H (s : State) : Outcome := changeReg s .h (withoutBit 4) 2 8

/-- `RES 4,L` (R402). -/
def execRes4L (s : State) : Outcome := changeReg s .l (withoutBit 4) 2 8

/-- `RES 4,(HL)` (R402). -/
def execRes4MemHl (s : State) : Outcome := changeMem s s.hl (withoutBit 4) 2 15

/-- `RES 4,A` (R402). -/
def execRes4A (s : State) : Outcome := changeReg s .a (withoutBit 4) 2 8

/-- `RES 5,B` (R402). -/
def execRes5B (s : State) : Outcome := changeReg s .b (withoutBit 5) 2 8

/-- `RES 5,C` (R402). -/
def execRes5C (s : State) : Outcome := changeReg s .c (withoutBit 5) 2 8

/-- `RES 5,D` (R402). -/
def execRes5D (s : State) : Outcome := changeReg s .d (withoutBit 5) 2 8

/-- `RES 5,E` (R402). -/
def execRes5E (s : State) : Outcome := changeReg s .e (withoutBit 5) 2 8

/-- `RES 5,H` (R402). -/
def execRes5H (s : State) : Outcome := changeReg s .h (withoutBit 5) 2 8

/-- `RES 5,L` (R402). -/
def execRes5L (s : State) : Outcome := changeReg s .l (withoutBit 5) 2 8

/-- `RES 5,(HL)` (R402). -/
def execRes5MemHl (s : State) : Outcome := changeMem s s.hl (withoutBit 5) 2 15

/-- `RES 5,A` (R402). -/
def execRes5A (s : State) : Outcome := changeReg s .a (withoutBit 5) 2 8

/-- `RES 6,B` (R402). -/
def execRes6B (s : State) : Outcome := changeReg s .b (withoutBit 6) 2 8

/-- `RES 6,C` (R402). -/
def execRes6C (s : State) : Outcome := changeReg s .c (withoutBit 6) 2 8

/-- `RES 6,D` (R402). -/
def execRes6D (s : State) : Outcome := changeReg s .d (withoutBit 6) 2 8

/-- `RES 6,E` (R402). -/
def execRes6E (s : State) : Outcome := changeReg s .e (withoutBit 6) 2 8

/-- `RES 6,H` (R402). -/
def execRes6H (s : State) : Outcome := changeReg s .h (withoutBit 6) 2 8

/-- `RES 6,L` (R402). -/
def execRes6L (s : State) : Outcome := changeReg s .l (withoutBit 6) 2 8

/-- `RES 6,(HL)` (R402). -/
def execRes6MemHl (s : State) : Outcome := changeMem s s.hl (withoutBit 6) 2 15

/-- `RES 6,A` (R402). -/
def execRes6A (s : State) : Outcome := changeReg s .a (withoutBit 6) 2 8

/-- `RES 7,B` (R402). -/
def execRes7B (s : State) : Outcome := changeReg s .b (withoutBit 7) 2 8

/-- `RES 7,C` (R402). -/
def execRes7C (s : State) : Outcome := changeReg s .c (withoutBit 7) 2 8

/-- `RES 7,D` (R402). -/
def execRes7D (s : State) : Outcome := changeReg s .d (withoutBit 7) 2 8

/-- `RES 7,E` (R402). -/
def execRes7E (s : State) : Outcome := changeReg s .e (withoutBit 7) 2 8

/-- `RES 7,H` (R402). -/
def execRes7H (s : State) : Outcome := changeReg s .h (withoutBit 7) 2 8

/-- `RES 7,L` (R402). -/
def execRes7L (s : State) : Outcome := changeReg s .l (withoutBit 7) 2 8

/-- `RES 7,(HL)` (R402). -/
def execRes7MemHl (s : State) : Outcome := changeMem s s.hl (withoutBit 7) 2 15

/-- `RES 7,A` (R402). -/
def execRes7A (s : State) : Outcome := changeReg s .a (withoutBit 7) 2 8

/-- `SET 0,B` (R401). -/
def execSet0B (s : State) : Outcome := changeReg s .b (withBit 0) 2 8

/-- `SET 0,C` (R401). -/
def execSet0C (s : State) : Outcome := changeReg s .c (withBit 0) 2 8

/-- `SET 0,D` (R401). -/
def execSet0D (s : State) : Outcome := changeReg s .d (withBit 0) 2 8

/-- `SET 0,E` (R401). -/
def execSet0E (s : State) : Outcome := changeReg s .e (withBit 0) 2 8

/-- `SET 0,H` (R401). -/
def execSet0H (s : State) : Outcome := changeReg s .h (withBit 0) 2 8

/-- `SET 0,L` (R401). -/
def execSet0L (s : State) : Outcome := changeReg s .l (withBit 0) 2 8

/-- `SET 0,(HL)` (R401). -/
def execSet0MemHl (s : State) : Outcome := changeMem s s.hl (withBit 0) 2 15

/-- `SET 0,A` (R401). -/
def execSet0A (s : State) : Outcome := changeReg s .a (withBit 0) 2 8

/-- `SET 1,B` (R401). -/
def execSet1B (s : State) : Outcome := changeReg s .b (withBit 1) 2 8

/-- `SET 1,C` (R401). -/
def execSet1C (s : State) : Outcome := changeReg s .c (withBit 1) 2 8

/-- `SET 1,D` (R401). -/
def execSet1D (s : State) : Outcome := changeReg s .d (withBit 1) 2 8

/-- `SET 1,E` (R401). -/
def execSet1E (s : State) : Outcome := changeReg s .e (withBit 1) 2 8

/-- `SET 1,H` (R401). -/
def execSet1H (s : State) : Outcome := changeReg s .h (withBit 1) 2 8

/-- `SET 1,L` (R401). -/
def execSet1L (s : State) : Outcome := changeReg s .l (withBit 1) 2 8

/-- `SET 1,(HL)` (R401). -/
def execSet1MemHl (s : State) : Outcome := changeMem s s.hl (withBit 1) 2 15

/-- `SET 1,A` (R401). -/
def execSet1A (s : State) : Outcome := changeReg s .a (withBit 1) 2 8

/-- `SET 2,B` (R401). -/
def execSet2B (s : State) : Outcome := changeReg s .b (withBit 2) 2 8

/-- `SET 2,C` (R401). -/
def execSet2C (s : State) : Outcome := changeReg s .c (withBit 2) 2 8

/-- `SET 2,D` (R401). -/
def execSet2D (s : State) : Outcome := changeReg s .d (withBit 2) 2 8

/-- `SET 2,E` (R401). -/
def execSet2E (s : State) : Outcome := changeReg s .e (withBit 2) 2 8

/-- `SET 2,H` (R401). -/
def execSet2H (s : State) : Outcome := changeReg s .h (withBit 2) 2 8

/-- `SET 2,L` (R401). -/
def execSet2L (s : State) : Outcome := changeReg s .l (withBit 2) 2 8

/-- `SET 2,(HL)` (R401). -/
def execSet2MemHl (s : State) : Outcome := changeMem s s.hl (withBit 2) 2 15

/-- `SET 2,A` (R401). -/
def execSet2A (s : State) : Outcome := changeReg s .a (withBit 2) 2 8

/-- `SET 3,B` (R401). -/
def execSet3B (s : State) : Outcome := changeReg s .b (withBit 3) 2 8

/-- `SET 3,C` (R401). -/
def execSet3C (s : State) : Outcome := changeReg s .c (withBit 3) 2 8

/-- `SET 3,D` (R401). -/
def execSet3D (s : State) : Outcome := changeReg s .d (withBit 3) 2 8

/-- `SET 3,E` (R401). -/
def execSet3E (s : State) : Outcome := changeReg s .e (withBit 3) 2 8

/-- `SET 3,H` (R401). -/
def execSet3H (s : State) : Outcome := changeReg s .h (withBit 3) 2 8

/-- `SET 3,L` (R401). -/
def execSet3L (s : State) : Outcome := changeReg s .l (withBit 3) 2 8

/-- `SET 3,(HL)` (R401). -/
def execSet3MemHl (s : State) : Outcome := changeMem s s.hl (withBit 3) 2 15

/-- `SET 3,A` (R401). -/
def execSet3A (s : State) : Outcome := changeReg s .a (withBit 3) 2 8

/-- `SET 4,B` (R401). -/
def execSet4B (s : State) : Outcome := changeReg s .b (withBit 4) 2 8

/-- `SET 4,C` (R401). -/
def execSet4C (s : State) : Outcome := changeReg s .c (withBit 4) 2 8

/-- `SET 4,D` (R401). -/
def execSet4D (s : State) : Outcome := changeReg s .d (withBit 4) 2 8

/-- `SET 4,E` (R401). -/
def execSet4E (s : State) : Outcome := changeReg s .e (withBit 4) 2 8

/-- `SET 4,H` (R401). -/
def execSet4H (s : State) : Outcome := changeReg s .h (withBit 4) 2 8

/-- `SET 4,L` (R401). -/
def execSet4L (s : State) : Outcome := changeReg s .l (withBit 4) 2 8

/-- `SET 4,(HL)` (R401). -/
def execSet4MemHl (s : State) : Outcome := changeMem s s.hl (withBit 4) 2 15

/-- `SET 4,A` (R401). -/
def execSet4A (s : State) : Outcome := changeReg s .a (withBit 4) 2 8

/-- `SET 5,B` (R401). -/
def execSet5B (s : State) : Outcome := changeReg s .b (withBit 5) 2 8

/-- `SET 5,C` (R401). -/
def execSet5C (s : State) : Outcome := changeReg s .c (withBit 5) 2 8

/-- `SET 5,D` (R401). -/
def execSet5D (s : State) : Outcome := changeReg s .d (withBit 5) 2 8

/-- `SET 5,E` (R401). -/
def execSet5E (s : State) : Outcome := changeReg s .e (withBit 5) 2 8

/-- `SET 5,H` (R401). -/
def execSet5H (s : State) : Outcome := changeReg s .h (withBit 5) 2 8

/-- `SET 5,L` (R401). -/
def execSet5L (s : State) : Outcome := changeReg s .l (withBit 5) 2 8

/-- `SET 5,(HL)` (R401). -/
def execSet5MemHl (s : State) : Outcome := changeMem s s.hl (withBit 5) 2 15

/-- `SET 5,A` (R401). -/
def execSet5A (s : State) : Outcome := changeReg s .a (withBit 5) 2 8

/-- `SET 6,B` (R401). -/
def execSet6B (s : State) : Outcome := changeReg s .b (withBit 6) 2 8

/-- `SET 6,C` (R401). -/
def execSet6C (s : State) : Outcome := changeReg s .c (withBit 6) 2 8

/-- `SET 6,D` (R401). -/
def execSet6D (s : State) : Outcome := changeReg s .d (withBit 6) 2 8

/-- `SET 6,E` (R401). -/
def execSet6E (s : State) : Outcome := changeReg s .e (withBit 6) 2 8

/-- `SET 6,H` (R401). -/
def execSet6H (s : State) : Outcome := changeReg s .h (withBit 6) 2 8

/-- `SET 6,L` (R401). -/
def execSet6L (s : State) : Outcome := changeReg s .l (withBit 6) 2 8

/-- `SET 6,(HL)` (R401). -/
def execSet6MemHl (s : State) : Outcome := changeMem s s.hl (withBit 6) 2 15

/-- `SET 6,A` (R401). -/
def execSet6A (s : State) : Outcome := changeReg s .a (withBit 6) 2 8

/-- `SET 7,B` (R401). -/
def execSet7B (s : State) : Outcome := changeReg s .b (withBit 7) 2 8

/-- `SET 7,C` (R401). -/
def execSet7C (s : State) : Outcome := changeReg s .c (withBit 7) 2 8

/-- `SET 7,D` (R401). -/
def execSet7D (s : State) : Outcome := changeReg s .d (withBit 7) 2 8

/-- `SET 7,E` (R401). -/
def execSet7E (s : State) : Outcome := changeReg s .e (withBit 7) 2 8

/-- `SET 7,H` (R401). -/
def execSet7H (s : State) : Outcome := changeReg s .h (withBit 7) 2 8

/-- `SET 7,L` (R401). -/
def execSet7L (s : State) : Outcome := changeReg s .l (withBit 7) 2 8

/-- `SET 7,(HL)` (R401). -/
def execSet7MemHl (s : State) : Outcome := changeMem s s.hl (withBit 7) 2 15

/-- `SET 7,A` (R401). -/
def execSet7A (s : State) : Outcome := changeReg s .a (withBit 7) 2 8

/-- `BIT 0,(IX+d)` (R400). -/
def execBit0MemIxd (d : Byte) (s : State) : Outcome := testBit s (s.readByte (s.indexed .ix d)) 0 4 20

/-- `BIT 1,(IX+d)` (R400). -/
def execBit1MemIxd (d : Byte) (s : State) : Outcome := testBit s (s.readByte (s.indexed .ix d)) 1 4 20

/-- `BIT 2,(IX+d)` (R400). -/
def execBit2MemIxd (d : Byte) (s : State) : Outcome := testBit s (s.readByte (s.indexed .ix d)) 2 4 20

/-- `BIT 3,(IX+d)` (R400). -/
def execBit3MemIxd (d : Byte) (s : State) : Outcome := testBit s (s.readByte (s.indexed .ix d)) 3 4 20

/-- `BIT 4,(IX+d)` (R400). -/
def execBit4MemIxd (d : Byte) (s : State) : Outcome := testBit s (s.readByte (s.indexed .ix d)) 4 4 20

/-- `BIT 5,(IX+d)` (R400). -/
def execBit5MemIxd (d : Byte) (s : State) : Outcome := testBit s (s.readByte (s.indexed .ix d)) 5 4 20

/-- `BIT 6,(IX+d)` (R400). -/
def execBit6MemIxd (d : Byte) (s : State) : Outcome := testBit s (s.readByte (s.indexed .ix d)) 6 4 20

/-- `BIT 7,(IX+d)` (R400). -/
def execBit7MemIxd (d : Byte) (s : State) : Outcome := testBit s (s.readByte (s.indexed .ix d)) 7 4 20

/-- `RES 0,(IX+d)` (R402). -/
def execRes0MemIxd (d : Byte) (s : State) : Outcome := changeMem s (s.indexed .ix d) (withoutBit 0) 4 23

/-- `RES 1,(IX+d)` (R402). -/
def execRes1MemIxd (d : Byte) (s : State) : Outcome := changeMem s (s.indexed .ix d) (withoutBit 1) 4 23

/-- `RES 2,(IX+d)` (R402). -/
def execRes2MemIxd (d : Byte) (s : State) : Outcome := changeMem s (s.indexed .ix d) (withoutBit 2) 4 23

/-- `RES 3,(IX+d)` (R402). -/
def execRes3MemIxd (d : Byte) (s : State) : Outcome := changeMem s (s.indexed .ix d) (withoutBit 3) 4 23

/-- `RES 4,(IX+d)` (R402). -/
def execRes4MemIxd (d : Byte) (s : State) : Outcome := changeMem s (s.indexed .ix d) (withoutBit 4) 4 23

/-- `RES 5,(IX+d)` (R402). -/
def execRes5MemIxd (d : Byte) (s : State) : Outcome := changeMem s (s.indexed .ix d) (withoutBit 5) 4 23

/-- `RES 6,(IX+d)` (R402). -/
def execRes6MemIxd (d : Byte) (s : State) : Outcome := changeMem s (s.indexed .ix d) (withoutBit 6) 4 23

/-- `RES 7,(IX+d)` (R402). -/
def execRes7MemIxd (d : Byte) (s : State) : Outcome := changeMem s (s.indexed .ix d) (withoutBit 7) 4 23

/-- `SET 0,(IX+d)` (R401). -/
def execSet0MemIxd (d : Byte) (s : State) : Outcome := changeMem s (s.indexed .ix d) (withBit 0) 4 23

/-- `SET 1,(IX+d)` (R401). -/
def execSet1MemIxd (d : Byte) (s : State) : Outcome := changeMem s (s.indexed .ix d) (withBit 1) 4 23

/-- `SET 2,(IX+d)` (R401). -/
def execSet2MemIxd (d : Byte) (s : State) : Outcome := changeMem s (s.indexed .ix d) (withBit 2) 4 23

/-- `SET 3,(IX+d)` (R401). -/
def execSet3MemIxd (d : Byte) (s : State) : Outcome := changeMem s (s.indexed .ix d) (withBit 3) 4 23

/-- `SET 4,(IX+d)` (R401). -/
def execSet4MemIxd (d : Byte) (s : State) : Outcome := changeMem s (s.indexed .ix d) (withBit 4) 4 23

/-- `SET 5,(IX+d)` (R401). -/
def execSet5MemIxd (d : Byte) (s : State) : Outcome := changeMem s (s.indexed .ix d) (withBit 5) 4 23

/-- `SET 6,(IX+d)` (R401). -/
def execSet6MemIxd (d : Byte) (s : State) : Outcome := changeMem s (s.indexed .ix d) (withBit 6) 4 23

/-- `SET 7,(IX+d)` (R401). -/
def execSet7MemIxd (d : Byte) (s : State) : Outcome := changeMem s (s.indexed .ix d) (withBit 7) 4 23

/-- `BIT 0,(IY+d)` (R400). -/
def execBit0MemIyd (d : Byte) (s : State) : Outcome := testBit s (s.readByte (s.indexed .iy d)) 0 4 20

/-- `BIT 1,(IY+d)` (R400). -/
def execBit1MemIyd (d : Byte) (s : State) : Outcome := testBit s (s.readByte (s.indexed .iy d)) 1 4 20

/-- `BIT 2,(IY+d)` (R400). -/
def execBit2MemIyd (d : Byte) (s : State) : Outcome := testBit s (s.readByte (s.indexed .iy d)) 2 4 20

/-- `BIT 3,(IY+d)` (R400). -/
def execBit3MemIyd (d : Byte) (s : State) : Outcome := testBit s (s.readByte (s.indexed .iy d)) 3 4 20

/-- `BIT 4,(IY+d)` (R400). -/
def execBit4MemIyd (d : Byte) (s : State) : Outcome := testBit s (s.readByte (s.indexed .iy d)) 4 4 20

/-- `BIT 5,(IY+d)` (R400). -/
def execBit5MemIyd (d : Byte) (s : State) : Outcome := testBit s (s.readByte (s.indexed .iy d)) 5 4 20

/-- `BIT 6,(IY+d)` (R400). -/
def execBit6MemIyd (d : Byte) (s : State) : Outcome := testBit s (s.readByte (s.indexed .iy d)) 6 4 20

/-- `BIT 7,(IY+d)` (R400). -/
def execBit7MemIyd (d : Byte) (s : State) : Outcome := testBit s (s.readByte (s.indexed .iy d)) 7 4 20

/-- `RES 0,(IY+d)` (R402). -/
def execRes0MemIyd (d : Byte) (s : State) : Outcome := changeMem s (s.indexed .iy d) (withoutBit 0) 4 23

/-- `RES 1,(IY+d)` (R402). -/
def execRes1MemIyd (d : Byte) (s : State) : Outcome := changeMem s (s.indexed .iy d) (withoutBit 1) 4 23

/-- `RES 2,(IY+d)` (R402). -/
def execRes2MemIyd (d : Byte) (s : State) : Outcome := changeMem s (s.indexed .iy d) (withoutBit 2) 4 23

/-- `RES 3,(IY+d)` (R402). -/
def execRes3MemIyd (d : Byte) (s : State) : Outcome := changeMem s (s.indexed .iy d) (withoutBit 3) 4 23

/-- `RES 4,(IY+d)` (R402). -/
def execRes4MemIyd (d : Byte) (s : State) : Outcome := changeMem s (s.indexed .iy d) (withoutBit 4) 4 23

/-- `RES 5,(IY+d)` (R402). -/
def execRes5MemIyd (d : Byte) (s : State) : Outcome := changeMem s (s.indexed .iy d) (withoutBit 5) 4 23

/-- `RES 6,(IY+d)` (R402). -/
def execRes6MemIyd (d : Byte) (s : State) : Outcome := changeMem s (s.indexed .iy d) (withoutBit 6) 4 23

/-- `RES 7,(IY+d)` (R402). -/
def execRes7MemIyd (d : Byte) (s : State) : Outcome := changeMem s (s.indexed .iy d) (withoutBit 7) 4 23

/-- `SET 0,(IY+d)` (R401). -/
def execSet0MemIyd (d : Byte) (s : State) : Outcome := changeMem s (s.indexed .iy d) (withBit 0) 4 23

/-- `SET 1,(IY+d)` (R401). -/
def execSet1MemIyd (d : Byte) (s : State) : Outcome := changeMem s (s.indexed .iy d) (withBit 1) 4 23

/-- `SET 2,(IY+d)` (R401). -/
def execSet2MemIyd (d : Byte) (s : State) : Outcome := changeMem s (s.indexed .iy d) (withBit 2) 4 23

/-- `SET 3,(IY+d)` (R401). -/
def execSet3MemIyd (d : Byte) (s : State) : Outcome := changeMem s (s.indexed .iy d) (withBit 3) 4 23

/-- `SET 4,(IY+d)` (R401). -/
def execSet4MemIyd (d : Byte) (s : State) : Outcome := changeMem s (s.indexed .iy d) (withBit 4) 4 23

/-- `SET 5,(IY+d)` (R401). -/
def execSet5MemIyd (d : Byte) (s : State) : Outcome := changeMem s (s.indexed .iy d) (withBit 5) 4 23

/-- `SET 6,(IY+d)` (R401). -/
def execSet6MemIyd (d : Byte) (s : State) : Outcome := changeMem s (s.indexed .iy d) (withBit 6) 4 23

/-- `SET 7,(IY+d)` (R401). -/
def execSet7MemIyd (d : Byte) (s : State) : Outcome := changeMem s (s.indexed .iy d) (withBit 7) 4 23

end Sys2Proof.Machine
end

