-- ==== Sys2Proof/Machine/CpuControl.lean ====
section
/-! DEFINITION. Accumulator adjustments, CPU control and the host trap (44_cpu_control.md). -/

namespace Sys2Proof.Machine

/-- `DAA` (R320). -/
def decimalAdjust (s : State) : Outcome :=
  (((s.advance 1).setA (daaResult s.flags s.cpu.main.a)).writeFlags fun d => daaFlags d s.flags s.cpu.main.a).finish 4

/-- `CPL` (R321). -/
def complementA (s : State) : Outcome :=
  (((s.advance 1).setA (s.cpu.main.a ^^^ 0xFF)).writeFlags fun d => cplFlags d s.flags).finish 4

/-- `NEG`: `sub8(0, A, 0)` (R322). -/
def negateA (s : State) : Outcome :=
  (((s.advance 2).setA (sub8 0 s.cpu.main.a false)).writeFlags fun d => sub8Flags d 0 s.cpu.main.a false).finish 8

/-- `CCF` (R323). -/
def complementCarry (s : State) : Outcome := ((s.advance 1).writeFlags fun d => ccfFlags d s.flags).finish 4

/-- `SCF` (R324). -/
def setCarry (s : State) : Outcome := ((s.advance 1).writeFlags fun d => scfFlags d s.flags).finish 4

/-- `HALT`: PC is left after the instruction (R326). -/
def haltCpu (s : State) : Outcome :=
  let t := s.advance 1
  ({ t with cpu := { t.cpu with halted := true } } : State).finish 4

/-- `DI` (R327). -/
def disableInterrupts (s : State) : Outcome :=
  let t := s.advance 1
  ({ t with cpu := { t.cpu with iff1 := false, iff2 := false } } : State).finish 4

/-- `EI`: the one step that ends with `eiDelay` set (R328, R511). -/
def enableInterrupts (s : State) : Outcome :=
  let t := s.advance 1
  .next ((({ t with cpu := { t.cpu with iff1 := true, iff2 := true } } : State).setEiDelay true).charge 4)

/-- `IM 0`, `IM 1` and `IM 2` (R329 to R331). -/
def setMode (s : State) (m : IntMode) : Outcome :=
  let t := s.advance 2
  ({ t with cpu := { t.cpu with im := m } } : State).finish 8

/-- `PATCH`: the host's `patch` acts on the machine with PC past the trap; `patchCycles` is charged whatever it does
(R332). -/
def hostPatch (s : State) : Outcome :=
  let t := s.advance 2
  let r := t.hostReply (.patch t.cpu)
  (r.actions.foldl State.act (t.afterCall (.patch t.cpu))).finish s.cfg.patchCycles

/-! ### The meanings -/


/-- `NOP` (R325). -/
def execNop (s : State) : Outcome := (s.advance 1).finish 4

/-- `DAA` (R320). -/
def execDaa (s : State) : Outcome := decimalAdjust s

/-- `CPL` (R321). -/
def execCpl (s : State) : Outcome := complementA s

/-- `SCF` (R324). -/
def execScf (s : State) : Outcome := setCarry s

/-- `CCF` (R323). -/
def execCcf (s : State) : Outcome := complementCarry s

/-- `HALT` (R326). -/
def execHalt (s : State) : Outcome := haltCpu s

/-- `DI` (R327). -/
def execDi (s : State) : Outcome := disableInterrupts s

/-- `EI` (R328). -/
def execEi (s : State) : Outcome := enableInterrupts s

/-- `NEG` (R322). -/
def execNeg (s : State) : Outcome := negateA s

/-- `IM 0` (R329). -/
def execIm0 (s : State) : Outcome := setMode s .im0

/-- `IM 1` (R330). -/
def execIm1 (s : State) : Outcome := setMode s .im1

/-- `IM 2` (R331). -/
def execIm2 (s : State) : Outcome := setMode s .im2

/-- `PATCH` (R332). -/
def execPatch (s : State) : Outcome := hostPatch s

end Sys2Proof.Machine
end

