-- ==== Sys2Proof/Machine/Exchange.lean ====
section
/-! DEFINITION. Exchanges, block transfer and block search (42_exchange_block.md). -/

namespace Sys2Proof.Machine

/-- `EX DE,HL` (R260). -/
def exchangeDeHl (s : State) : Outcome := (((s.advance 1).setDe s.hl).setHl s.de).finish 4

/-- `EX AF,AF'`: A and all of F (R261). -/
def exchangeAf (s : State) : Outcome :=
  let t := s.advance 1
  ({ t with cpu := { t.cpu with
      main := { s.cpu.main with a := s.cpu.shadow.a, f := s.cpu.shadow.f }
      shadow := { s.cpu.shadow with a := s.cpu.main.a, f := s.cpu.main.f } } } : State).finish 4

/-- `EXX`: BC, DE and HL with their shadows (R262). -/
def exchangeBanks (s : State) : Outcome :=
  let t := s.advance 1
  ({ t with cpu := { t.cpu with
      main := { s.cpu.shadow with a := s.cpu.main.a, f := s.cpu.main.f }
      shadow := { s.cpu.main with a := s.cpu.shadow.a, f := s.cpu.shadow.f } } } : State).finish 4

/-- The writes of `EX (SP),rr`: the high byte at SP + 1 first, then the low byte at SP (R263). -/
def exchangeStack (s : State) (v : Word) : State :=
  (s.writeByte (s.cpu.sp + 1) (highByte v)).writeByte s.cpu.sp (lowByte v)

/-- One iteration of a block transfer: `step` is 1 upward and -1 downward (R266 to R269). -/
def blockMove (s : State) (step : Word) (repeats : Bool) : Outcome :=
  let bc := s.bc - 1
  let t := (s.advance 2).writeByte s.de (s.readByte s.hl)
  let u := ((t.setDe (s.de + step)).setHl (s.hl + step)).setBc bc
  (u.writeFlags fun d => blockMoveFlags d s.flags bc).iterate (repeats && bc != 0)

/-- One iteration of a block search: `step` is 1 upward and -1 downward (R270 to R273). -/
def blockSearch (s : State) (step : Word) (repeats : Bool) : Outcome :=
  let bc := s.bc - 1
  let v := s.readByte s.hl
  let u := ((s.advance 2).setHl (s.hl + step)).setBc bc
  (u.writeFlags fun d => blockCompareFlags d s.flags s.cpu.main.a v bc).iterate
    (repeats && bc != 0 && s.cpu.main.a - v != 0)

/-! ### The meanings -/


/-- `EX AF,AF'` (R261). -/
def execExAfAfAlt (s : State) : Outcome := exchangeAf s

/-- `EXX` (R262). -/
def execExx (s : State) : Outcome := exchangeBanks s

/-- `EX (SP),HL` (R263). -/
def execExMemSpHl (s : State) : Outcome := ((exchangeStack (s.advance 1) s.hl).setHl (s.readWord s.cpu.sp)).finish 19

/-- `EX DE,HL` (R260). -/
def execExDeHl (s : State) : Outcome := exchangeDeHl s

/-- `LDI` (R266). -/
def execLdi (s : State) : Outcome := blockMove s 1 false

/-- `CPI` (R270). -/
def execCpi (s : State) : Outcome := blockSearch s 1 false

/-- `LDD` (R268). -/
def execLdd (s : State) : Outcome := blockMove s (-1) false

/-- `CPD` (R272). -/
def execCpd (s : State) : Outcome := blockSearch s (-1) false

/-- `LDIR` (R267). -/
def execLdir (s : State) : Outcome := blockMove s 1 true

/-- `CPIR` (R271). -/
def execCpir (s : State) : Outcome := blockSearch s 1 true

/-- `LDDR` (R269). -/
def execLddr (s : State) : Outcome := blockMove s (-1) true

/-- `CPDR` (R273). -/
def execCpdr (s : State) : Outcome := blockSearch s (-1) true

/-- `EX (SP),IX` (R264). -/
def execExMemSpIx (s : State) : Outcome := ((exchangeStack (s.advance 2) (s.index .ix)).setIndex .ix (s.readWord s.cpu.sp)).finish 23

/-- `EX (SP),IY` (R265). -/
def execExMemSpIy (s : State) : Outcome := ((exchangeStack (s.advance 2) (s.index .iy)).setIndex .iy (s.readWord s.cpu.sp)).finish 23

end Sys2Proof.Machine
end

