-- ==== Sys2Proof/Machine/InOut.lean ====
section
/-! DEFINITION. Input and output (49_io.md). -/

namespace Sys2Proof.Machine

/-- `IN A,(n)`: port `A ++ n`, no flags (R460). -/
def inputA (s : State) (n : Byte) : Outcome :=
  (s.advance 2).ioRead s (joinBytes s.cpu.main.a n) fun v t => (t.setA v).finish 11

/-- `IN r,(C)`: port `BC`, flags from the byte (R461). -/
def inputReg (s : State) (r : Reg8) : Outcome :=
  (s.advance 2).ioRead s s.bc fun v t => ((t.setReg8 r v).writeFlags fun d => valueFlags d s.flags v).finish 12

/-- `OUT (n),A`: port `A ++ n` (R466). -/
def outputA (s : State) (n : Byte) : Outcome :=
  (s.advance 2).ioWrite s (joinBytes s.cpu.main.a n) s.cpu.main.a fun t => t.finish 11

/-- `OUT (C),r`: port `BC` (R467). -/
def outputReg (s : State) (r : Reg8) : Outcome :=
  (s.advance 2).ioWrite s s.bc (s.reg8 r) fun t => t.finish 12

/-- One iteration of a block input: the port is `BC` before the decrement; `step` is 1 upward and -1 downward
(R462 to R465, R472). -/
def blockIn (s : State) (step : Word) (repeats : Bool) : Outcome :=
  (s.advance 2).ioRead s s.bc fun v t =>
    let b := s.cpu.main.b - 1
    let u := ((t.writeByte s.hl v).setB b).setHl (s.hl + step)
    (u.writeFlags fun d => blockIoFlags d b).iterate (repeats && b != 0)

/-- One iteration of a block output: the port is `BC` after the decrement; `step` is 1 upward and -1 downward
(R468 to R472). -/
def blockOut (s : State) (step : Word) (repeats : Bool) : Outcome :=
  let b := s.cpu.main.b - 1
  let t := (s.advance 2).setB b
  t.ioWrite s t.bc (s.readByte s.hl) fun u =>
    ((u.setHl (s.hl + step)).writeFlags fun d => blockIoFlags d b).iterate (repeats && b != 0)

/-! ### The meanings -/


/-- `OUT (n),A` (R466). -/
def execOutPortNA (n : Byte) (s : State) : Outcome := outputA s n

/-- `IN A,(n)` (R460). -/
def execInAPortN (n : Byte) (s : State) : Outcome := inputA s n

/-- `IN B,(C)` (R461). -/
def execInBPortC (s : State) : Outcome := inputReg s .b

/-- `OUT (C),B` (R467). -/
def execOutPortCB (s : State) : Outcome := outputReg s .b

/-- `IN C,(C)` (R461). -/
def execInCPortC (s : State) : Outcome := inputReg s .c

/-- `OUT (C),C` (R467). -/
def execOutPortCC (s : State) : Outcome := outputReg s .c

/-- `IN D,(C)` (R461). -/
def execInDPortC (s : State) : Outcome := inputReg s .d

/-- `OUT (C),D` (R467). -/
def execOutPortCD (s : State) : Outcome := outputReg s .d

/-- `IN E,(C)` (R461). -/
def execInEPortC (s : State) : Outcome := inputReg s .e

/-- `OUT (C),E` (R467). -/
def execOutPortCE (s : State) : Outcome := outputReg s .e

/-- `IN H,(C)` (R461). -/
def execInHPortC (s : State) : Outcome := inputReg s .h

/-- `OUT (C),H` (R467). -/
def execOutPortCH (s : State) : Outcome := outputReg s .h

/-- `IN L,(C)` (R461). -/
def execInLPortC (s : State) : Outcome := inputReg s .l

/-- `OUT (C),L` (R467). -/
def execOutPortCL (s : State) : Outcome := outputReg s .l

/-- `IN A,(C)` (R461). -/
def execInAPortC (s : State) : Outcome := inputReg s .a

/-- `OUT (C),A` (R467). -/
def execOutPortCA (s : State) : Outcome := outputReg s .a

/-- `INI` (R462). -/
def execIni (s : State) : Outcome := blockIn s 1 false

/-- `OUTI` (R468). -/
def execOuti (s : State) : Outcome := blockOut s 1 false

/-- `IND` (R464). -/
def execInd (s : State) : Outcome := blockIn s (-1) false

/-- `OUTD` (R470). -/
def execOutd (s : State) : Outcome := blockOut s (-1) false

/-- `INIR` (R463). -/
def execInir (s : State) : Outcome := blockIn s 1 true

/-- `OTIR` (R469). -/
def execOtir (s : State) : Outcome := blockOut s 1 true

/-- `INDR` (R465). -/
def execIndr (s : State) : Outcome := blockIn s (-1) true

/-- `OTDR` (R471). -/
def execOtdr (s : State) : Outcome := blockOut s (-1) true

end Sys2Proof.Machine
end

