-- ==== Sys2Proof/Machine/Jump.lean ====
section
/-! DEFINITION. Jumps, calls, returns and restarts (48_jump_call.md). -/

namespace Sys2Proof.Machine

/-- The target of `JR` and `DJNZ`: the address after the two bytes of the instruction, plus `e` (R157). -/
def relativeTarget (s : State) (e : Byte) : Word := (s.advance 2).cpu.pc + sext16 e

/-- A jump (R421, R423, R425 to R427). -/
def jump (s : State) (target : Word) (len cost : Nat) : Outcome := ((s.advance len).setPc target).finish cost

/-- A conditional jump (R422, R424). -/
def jumpIf (s : State) (taken : Bool) (target : Word) (len cost costTaken : Nat) : Outcome :=
  if taken then jump s target len costTaken else (s.advance len).finish cost

/-- `DJNZ e` (R428). -/
def decrementJump (s : State) (e : Byte) : Outcome :=
  let b := s.cpu.main.b - 1
  let t := (s.advance 2).setB b
  if b = 0 then t.finish 8 else (t.setPc (relativeTarget s e)).finish 13

/-- A call: push the address after the instruction, then jump (R429, R435). -/
def call (s : State) (target : Word) (len cost : Nat) : Outcome :=
  (((s.advance len).push16 (s.advance len).cpu.pc).setPc target).finish cost

/-- A conditional call (R430). -/
def callIf (s : State) (taken : Bool) (target : Word) (len cost costTaken : Nat) : Outcome :=
  if taken then call s target len costTaken else (s.advance len).finish cost

/-- `RET` (R431). -/
def ret (s : State) (len cost : Nat) : Outcome := (((s.advance len).popped).setPc s.popValue).finish cost

/-- `RET cc` (R432). -/
def retIf (s : State) (taken : Bool) (len cost costTaken : Nat) : Outcome :=
  if taken then ret s len costTaken else (s.advance len).finish cost

/-- `RETI`: the return, then the host's `retiSignal`, whose result is ignored (R433, R518). -/
def returnMaskable (s : State) : Outcome :=
  let t := (s.advance 2).returnFromInterrupt
  (t.afterCall (.retiSignal t.cpu)).finish 14

/-- `RETN` (R434). -/
def returnNonMaskable (s : State) : Outcome := ((s.advance 2).returnFromInterrupt).finish 14

/-! ### The meanings -/


/-- `DJNZ e` (R428). -/
def execDjnzE (e : Byte) (s : State) : Outcome := decrementJump s e

/-- `JR e` (R423). -/
def execJrE (e : Byte) (s : State) : Outcome := jump s (relativeTarget s e) 2 12

/-- `JR NZ,e` (R424). -/
def execJrNzE (e : Byte) (s : State) : Outcome := jumpIf s (s.flags.holds .nz) (relativeTarget s e) 2 7 12

/-- `JR Z,e` (R424). -/
def execJrZE (e : Byte) (s : State) : Outcome := jumpIf s (s.flags.holds .z) (relativeTarget s e) 2 7 12

/-- `JR NC,e` (R424). -/
def execJrNcE (e : Byte) (s : State) : Outcome := jumpIf s (s.flags.holds .nc) (relativeTarget s e) 2 7 12

/-- `JR C,e` (R424). -/
def execJrCE (e : Byte) (s : State) : Outcome := jumpIf s (s.flags.holds .c) (relativeTarget s e) 2 7 12

/-- `RET NZ` (R432). -/
def execRetNz (s : State) : Outcome := retIf s (s.flags.holds .nz) 1 5 11

/-- `JP NZ,nn` (R422). -/
def execJpNzNn (nn : Word) (s : State) : Outcome := jumpIf s (s.flags.holds .nz) nn 3 10 10

/-- `JP nn` (R421). -/
def execJpNn (nn : Word) (s : State) : Outcome := jump s nn 3 10

/-- `CALL NZ,nn` (R430). -/
def execCallNzNn (nn : Word) (s : State) : Outcome := callIf s (s.flags.holds .nz) nn 3 10 17

/-- `RST 00H` (R435). -/
def execRst00 (s : State) : Outcome := call s 0x0000 1 11

/-- `RET Z` (R432). -/
def execRetZ (s : State) : Outcome := retIf s (s.flags.holds .z) 1 5 11

/-- `RET` (R431). -/
def execRet (s : State) : Outcome := ret s 1 10

/-- `JP Z,nn` (R422). -/
def execJpZNn (nn : Word) (s : State) : Outcome := jumpIf s (s.flags.holds .z) nn 3 10 10

/-- `CALL Z,nn` (R430). -/
def execCallZNn (nn : Word) (s : State) : Outcome := callIf s (s.flags.holds .z) nn 3 10 17

/-- `CALL nn` (R429). -/
def execCallNn (nn : Word) (s : State) : Outcome := call s nn 3 17

/-- `RST 08H` (R435). -/
def execRst08 (s : State) : Outcome := call s 0x0008 1 11

/-- `RET NC` (R432). -/
def execRetNc (s : State) : Outcome := retIf s (s.flags.holds .nc) 1 5 11

/-- `JP NC,nn` (R422). -/
def execJpNcNn (nn : Word) (s : State) : Outcome := jumpIf s (s.flags.holds .nc) nn 3 10 10

/-- `CALL NC,nn` (R430). -/
def execCallNcNn (nn : Word) (s : State) : Outcome := callIf s (s.flags.holds .nc) nn 3 10 17

/-- `RST 10H` (R435). -/
def execRst10 (s : State) : Outcome := call s 0x0010 1 11

/-- `RET C` (R432). -/
def execRetC (s : State) : Outcome := retIf s (s.flags.holds .c) 1 5 11

/-- `JP C,nn` (R422). -/
def execJpCNn (nn : Word) (s : State) : Outcome := jumpIf s (s.flags.holds .c) nn 3 10 10

/-- `CALL C,nn` (R430). -/
def execCallCNn (nn : Word) (s : State) : Outcome := callIf s (s.flags.holds .c) nn 3 10 17

/-- `RST 18H` (R435). -/
def execRst18 (s : State) : Outcome := call s 0x0018 1 11

/-- `RET PO` (R432). -/
def execRetPo (s : State) : Outcome := retIf s (s.flags.holds .po) 1 5 11

/-- `JP PO,nn` (R422). -/
def execJpPoNn (nn : Word) (s : State) : Outcome := jumpIf s (s.flags.holds .po) nn 3 10 10

/-- `CALL PO,nn` (R430). -/
def execCallPoNn (nn : Word) (s : State) : Outcome := callIf s (s.flags.holds .po) nn 3 10 17

/-- `RST 20H` (R435). -/
def execRst20 (s : State) : Outcome := call s 0x0020 1 11

/-- `RET PE` (R432). -/
def execRetPe (s : State) : Outcome := retIf s (s.flags.holds .pe) 1 5 11

/-- `JP (HL)` (R425). -/
def execJpHl (s : State) : Outcome := jump s s.hl 1 4

/-- `JP PE,nn` (R422). -/
def execJpPeNn (nn : Word) (s : State) : Outcome := jumpIf s (s.flags.holds .pe) nn 3 10 10

/-- `CALL PE,nn` (R430). -/
def execCallPeNn (nn : Word) (s : State) : Outcome := callIf s (s.flags.holds .pe) nn 3 10 17

/-- `RST 28H` (R435). -/
def execRst28 (s : State) : Outcome := call s 0x0028 1 11

/-- `RET P` (R432). -/
def execRetP (s : State) : Outcome := retIf s (s.flags.holds .p) 1 5 11

/-- `JP P,nn` (R422). -/
def execJpPNn (nn : Word) (s : State) : Outcome := jumpIf s (s.flags.holds .p) nn 3 10 10

/-- `CALL P,nn` (R430). -/
def execCallPNn (nn : Word) (s : State) : Outcome := callIf s (s.flags.holds .p) nn 3 10 17

/-- `RST 30H` (R435). -/
def execRst30 (s : State) : Outcome := call s 0x0030 1 11

/-- `RET M` (R432). -/
def execRetM (s : State) : Outcome := retIf s (s.flags.holds .m) 1 5 11

/-- `JP M,nn` (R422). -/
def execJpMNn (nn : Word) (s : State) : Outcome := jumpIf s (s.flags.holds .m) nn 3 10 10

/-- `CALL M,nn` (R430). -/
def execCallMNn (nn : Word) (s : State) : Outcome := callIf s (s.flags.holds .m) nn 3 10 17

/-- `RST 38H` (R435). -/
def execRst38 (s : State) : Outcome := call s 0x0038 1 11

/-- `RETN` (R434). -/
def execRetn (s : State) : Outcome := returnNonMaskable s

/-- `RETI` (R433). -/
def execReti (s : State) : Outcome := returnMaskable s

/-- `JP (IX)` (R426). -/
def execJpIx (s : State) : Outcome := jump s (s.index .ix) 2 8

/-- `JP (IY)` (R427). -/
def execJpIy (s : State) : Outcome := jump s (s.index .iy) 2 8

end Sys2Proof.Machine
end

