-- ==== Sys2Proof/Machine/Load16.lean ====
section
/-! DEFINITION. The 16-bit loads, PUSH and POP (41_load16.md). -/

namespace Sys2Proof.Machine

/-- A load of `v` into a register pair. -/
def loadPair (s : State) (p : Pair) (v : Word) (len cost : Nat) : Outcome :=
  ((s.advance len).setPair p v).finish cost

/-- A load of `v` into an index register. -/
def loadIndex (s : State) (x : IndexReg) (v : Word) (len cost : Nat) : Outcome :=
  ((s.advance len).setIndex x v).finish cost

/-- A store of `v` at `a` and `a + 1`, low byte first (R85). -/
def storeWord (s : State) (a v : Word) (len cost : Nat) : Outcome :=
  ((s.advance len).writeWord a v).finish cost

/-- A push of `v` (R244). -/
def pushWord (s : State) (v : Word) (len cost : Nat) : Outcome :=
  ((s.advance len).push16 v).finish cost

/-- A pop into a register pair (R247). -/
def popToPair (s : State) (q : PairQ) (len cost : Nat) : Outcome :=
  ((s.advance len).popped.setPairQ q s.popValue).finish cost

/-- A pop into an index register (R248, R249). -/
def popToIndex (s : State) (x : IndexReg) (len cost : Nat) : Outcome :=
  ((s.advance len).popped.setIndex x s.popValue).finish cost

/-! ### The meanings -/


/-- `LD BC,nn` (R230). -/
def execLdBcNn (nn : Word) (s : State) : Outcome := loadPair s .bc nn 3 10

/-- `LD DE,nn` (R230). -/
def execLdDeNn (nn : Word) (s : State) : Outcome := loadPair s .de nn 3 10

/-- `LD HL,nn` (R230). -/
def execLdHlNn (nn : Word) (s : State) : Outcome := loadPair s .hl nn 3 10

/-- `LD (nn),HL` (R237). -/
def execLdMemNnHl (nn : Word) (s : State) : Outcome := storeWord s nn (s.pair .hl) 3 16

/-- `LD HL,(nn)` (R233). -/
def execLdHlMemNn (nn : Word) (s : State) : Outcome := loadPair s .hl (s.readWord nn) 3 16

/-- `LD SP,nn` (R230). -/
def execLdSpNn (nn : Word) (s : State) : Outcome := loadPair s .sp nn 3 10

/-- `POP BC` (R247). -/
def execPopBc (s : State) : Outcome := popToPair s .bc 1 10

/-- `PUSH BC` (R244). -/
def execPushBc (s : State) : Outcome := pushWord s (s.pairQ .bc) 1 11

/-- `POP DE` (R247). -/
def execPopDe (s : State) : Outcome := popToPair s .de 1 10

/-- `PUSH DE` (R244). -/
def execPushDe (s : State) : Outcome := pushWord s (s.pairQ .de) 1 11

/-- `POP HL` (R247). -/
def execPopHl (s : State) : Outcome := popToPair s .hl 1 10

/-- `PUSH HL` (R244). -/
def execPushHl (s : State) : Outcome := pushWord s (s.pairQ .hl) 1 11

/-- `POP AF` (R247). -/
def execPopAf (s : State) : Outcome := popToPair s .af 1 10

/-- `PUSH AF` (R244). -/
def execPushAf (s : State) : Outcome := pushWord s (s.pairQ .af) 1 11

/-- `LD SP,HL` (R241). -/
def execLdSpHl (s : State) : Outcome := loadPair s .sp s.hl 1 6

/-- `LD (nn),BC` (R238). -/
def execLdMemNnBc (nn : Word) (s : State) : Outcome := storeWord s nn (s.pair .bc) 4 20

/-- `LD BC,(nn)` (R234). -/
def execLdBcMemNn (nn : Word) (s : State) : Outcome := loadPair s .bc (s.readWord nn) 4 20

/-- `LD (nn),DE` (R238). -/
def execLdMemNnDe (nn : Word) (s : State) : Outcome := storeWord s nn (s.pair .de) 4 20

/-- `LD DE,(nn)` (R234). -/
def execLdDeMemNn (nn : Word) (s : State) : Outcome := loadPair s .de (s.readWord nn) 4 20

/-- `LD (nn),HL` (R238). -/
def execLdMemNnHlEd (nn : Word) (s : State) : Outcome := storeWord s nn (s.pair .hl) 4 20

/-- `LD HL,(nn)` (R234). -/
def execLdHlMemNnEd (nn : Word) (s : State) : Outcome := loadPair s .hl (s.readWord nn) 4 20

/-- `LD (nn),SP` (R238). -/
def execLdMemNnSp (nn : Word) (s : State) : Outcome := storeWord s nn (s.pair .sp) 4 20

/-- `LD SP,(nn)` (R234). -/
def execLdSpMemNn (nn : Word) (s : State) : Outcome := loadPair s .sp (s.readWord nn) 4 20

/-- `LD IX,nn` (R231). -/
def execLdIxNn (nn : Word) (s : State) : Outcome := loadIndex s .ix nn 4 14

/-- `LD (nn),IX` (R239). -/
def execLdMemNnIx (nn : Word) (s : State) : Outcome := storeWord s nn (s.index .ix) 4 20

/-- `LD IX,(nn)` (R235). -/
def execLdIxMemNn (nn : Word) (s : State) : Outcome := loadIndex s .ix (s.readWord nn) 4 20

/-- `POP IX` (R248). -/
def execPopIx (s : State) : Outcome := popToIndex s .ix 2 14

/-- `PUSH IX` (R245). -/
def execPushIx (s : State) : Outcome := pushWord s (s.index .ix) 2 15

/-- `LD SP,IX` (R242). -/
def execLdSpIx (s : State) : Outcome := loadPair s .sp (s.index .ix) 2 10

/-- `LD IY,nn` (R232). -/
def execLdIyNn (nn : Word) (s : State) : Outcome := loadIndex s .iy nn 4 14

/-- `LD (nn),IY` (R240). -/
def execLdMemNnIy (nn : Word) (s : State) : Outcome := storeWord s nn (s.index .iy) 4 20

/-- `LD IY,(nn)` (R236). -/
def execLdIyMemNn (nn : Word) (s : State) : Outcome := loadIndex s .iy (s.readWord nn) 4 20

/-- `POP IY` (R249). -/
def execPopIy (s : State) : Outcome := popToIndex s .iy 2 14

/-- `PUSH IY` (R246). -/
def execPushIy (s : State) : Outcome := pushWord s (s.index .iy) 2 15

/-- `LD SP,IY` (R243). -/
def execLdSpIy (s : State) : Outcome := loadPair s .sp (s.index .iy) 2 10

end Sys2Proof.Machine
end

