-- ==== Sys2Proof/Machine/Load8.lean ====
section
/-! DEFINITION. The 8-bit loads (40_load8.md). -/

namespace Sys2Proof.Machine

/-- A load of `v` into register `r`. -/
def loadReg (s : State) (r : Reg8) (v : Byte) (len cost : Nat) : Outcome :=
  ((s.advance len).setReg8 r v).finish cost

/-- A store of `v` at address `a`, through the CPU's write path (R84, R205). -/
def storeByte (s : State) (a : Word) (v : Byte) (len cost : Nat) : Outcome :=
  ((s.advance len).writeByte a v).finish cost

/-- `LD A,I`: A and the flags from I, PV from IFF2 (R217). -/
def loadFromI (s : State) : Outcome :=
  (((s.advance 2).setA s.cpu.i).writeFlags fun d => loadIrFlags d s.flags s.cpu.i s.cpu.iff2).finish 9

/-- `R7 ++ draw7` (R37): bit 7 kept, bits 6:0 from a drawn byte. -/
def refreshByte (r7 : Bool) (drawn : Byte) : Byte := BitVec.ofBool r7 ++ drawn.extractLsb' 0 7

/-- `LD A,R`: bits 6:0 are a draw, the flags follow the byte (R218). -/
def loadFromR (s : State) : Outcome :=
  let v := refreshByte s.cpu.r7 (Config.draw s.draws)
  (((s.advance 2).nextDraw.setA v).writeFlags fun d => loadIrFlags d s.flags v s.cpu.iff2).finish 9

/-- `LD I,A` (R219). -/
def storeToI (s : State) : Outcome :=
  let t := s.advance 2
  ({ t with cpu := { t.cpu with i := s.cpu.main.a } } : State).finish 9

/-- `LD R,A`: only bit 7 is kept (R220). -/
def storeToR (s : State) : Outcome :=
  let t := s.advance 2
  ({ t with cpu := { t.cpu with r7 := s.cpu.main.a.msb } } : State).finish 9

/-! ### The meanings -/


/-- `LD (BC),A` (R214). -/
def execLdMemBcA (s : State) : Outcome := storeByte s s.bc s.cpu.main.a 1 7

/-- `LD B,n` (R201). -/
def execLdBN (n : Byte) (s : State) : Outcome := loadReg s .b n 2 7

/-- `LD A,(BC)` (R211). -/
def execLdAMemBc (s : State) : Outcome := loadReg s .a (s.readByte s.bc) 1 7

/-- `LD C,n` (R201). -/
def execLdCN (n : Byte) (s : State) : Outcome := loadReg s .c n 2 7

/-- `LD (DE),A` (R215). -/
def execLdMemDeA (s : State) : Outcome := storeByte s s.de s.cpu.main.a 1 7

/-- `LD D,n` (R201). -/
def execLdDN (n : Byte) (s : State) : Outcome := loadReg s .d n 2 7

/-- `LD A,(DE)` (R212). -/
def execLdAMemDe (s : State) : Outcome := loadReg s .a (s.readByte s.de) 1 7

/-- `LD E,n` (R201). -/
def execLdEN (n : Byte) (s : State) : Outcome := loadReg s .e n 2 7

/-- `LD H,n` (R201). -/
def execLdHN (n : Byte) (s : State) : Outcome := loadReg s .h n 2 7

/-- `LD L,n` (R201). -/
def execLdLN (n : Byte) (s : State) : Outcome := loadReg s .l n 2 7

/-- `LD (nn),A` (R216). -/
def execLdMemNnA (nn : Word) (s : State) : Outcome := storeByte s nn s.cpu.main.a 3 13

/-- `LD (HL),n` (R208). -/
def execLdMemHlN (n : Byte) (s : State) : Outcome := storeByte s s.hl n 2 10

/-- `LD A,(nn)` (R213). -/
def execLdAMemNn (nn : Word) (s : State) : Outcome := loadReg s .a (s.readByte nn) 3 13

/-- `LD A,n` (R201). -/
def execLdAN (n : Byte) (s : State) : Outcome := loadReg s .a n 2 7

/-- `LD B,B` (R200). -/
def execLdBB (s : State) : Outcome := loadReg s .b (s.reg8 .b) 1 4

/-- `LD B,C` (R200). -/
def execLdBC (s : State) : Outcome := loadReg s .b (s.reg8 .c) 1 4

/-- `LD B,D` (R200). -/
def execLdBD (s : State) : Outcome := loadReg s .b (s.reg8 .d) 1 4

/-- `LD B,E` (R200). -/
def execLdBE (s : State) : Outcome := loadReg s .b (s.reg8 .e) 1 4

/-- `LD B,H` (R200). -/
def execLdBH (s : State) : Outcome := loadReg s .b (s.reg8 .h) 1 4

/-- `LD B,L` (R200). -/
def execLdBL (s : State) : Outcome := loadReg s .b (s.reg8 .l) 1 4

/-- `LD B,(HL)` (R202). -/
def execLdBMemHl (s : State) : Outcome := loadReg s .b (s.readByte s.hl) 1 7

/-- `LD B,A` (R200). -/
def execLdBA (s : State) : Outcome := loadReg s .b (s.reg8 .a) 1 4

/-- `LD C,B` (R200). -/
def execLdCB (s : State) : Outcome := loadReg s .c (s.reg8 .b) 1 4

/-- `LD C,C` (R200). -/
def execLdCC (s : State) : Outcome := loadReg s .c (s.reg8 .c) 1 4

/-- `LD C,D` (R200). -/
def execLdCD (s : State) : Outcome := loadReg s .c (s.reg8 .d) 1 4

/-- `LD C,E` (R200). -/
def execLdCE (s : State) : Outcome := loadReg s .c (s.reg8 .e) 1 4

/-- `LD C,H` (R200). -/
def execLdCH (s : State) : Outcome := loadReg s .c (s.reg8 .h) 1 4

/-- `LD C,L` (R200). -/
def execLdCL (s : State) : Outcome := loadReg s .c (s.reg8 .l) 1 4

/-- `LD C,(HL)` (R202). -/
def execLdCMemHl (s : State) : Outcome := loadReg s .c (s.readByte s.hl) 1 7

/-- `LD C,A` (R200). -/
def execLdCA (s : State) : Outcome := loadReg s .c (s.reg8 .a) 1 4

/-- `LD D,B` (R200). -/
def execLdDB (s : State) : Outcome := loadReg s .d (s.reg8 .b) 1 4

/-- `LD D,C` (R200). -/
def execLdDC (s : State) : Outcome := loadReg s .d (s.reg8 .c) 1 4

/-- `LD D,D` (R200). -/
def execLdDD (s : State) : Outcome := loadReg s .d (s.reg8 .d) 1 4

/-- `LD D,E` (R200). -/
def execLdDE (s : State) : Outcome := loadReg s .d (s.reg8 .e) 1 4

/-- `LD D,H` (R200). -/
def execLdDH (s : State) : Outcome := loadReg s .d (s.reg8 .h) 1 4

/-- `LD D,L` (R200). -/
def execLdDL (s : State) : Outcome := loadReg s .d (s.reg8 .l) 1 4

/-- `LD D,(HL)` (R202). -/
def execLdDMemHl (s : State) : Outcome := loadReg s .d (s.readByte s.hl) 1 7

/-- `LD D,A` (R200). -/
def execLdDA (s : State) : Outcome := loadReg s .d (s.reg8 .a) 1 4

/-- `LD E,B` (R200). -/
def execLdEB (s : State) : Outcome := loadReg s .e (s.reg8 .b) 1 4

/-- `LD E,C` (R200). -/
def execLdEC (s : State) : Outcome := loadReg s .e (s.reg8 .c) 1 4

/-- `LD E,D` (R200). -/
def execLdED (s : State) : Outcome := loadReg s .e (s.reg8 .d) 1 4

/-- `LD E,E` (R200). -/
def execLdEE (s : State) : Outcome := loadReg s .e (s.reg8 .e) 1 4

/-- `LD E,H` (R200). -/
def execLdEH (s : State) : Outcome := loadReg s .e (s.reg8 .h) 1 4

/-- `LD E,L` (R200). -/
def execLdEL (s : State) : Outcome := loadReg s .e (s.reg8 .l) 1 4

/-- `LD E,(HL)` (R202). -/
def execLdEMemHl (s : State) : Outcome := loadReg s .e (s.readByte s.hl) 1 7

/-- `LD E,A` (R200). -/
def execLdEA (s : State) : Outcome := loadReg s .e (s.reg8 .a) 1 4

/-- `LD H,B` (R200). -/
def execLdHB (s : State) : Outcome := loadReg s .h (s.reg8 .b) 1 4

/-- `LD H,C` (R200). -/
def execLdHC (s : State) : Outcome := loadReg s .h (s.reg8 .c) 1 4

/-- `LD H,D` (R200). -/
def execLdHD (s : State) : Outcome := loadReg s .h (s.reg8 .d) 1 4

/-- `LD H,E` (R200). -/
def execLdHE (s : State) : Outcome := loadReg s .h (s.reg8 .e) 1 4

/-- `LD H,H` (R200). -/
def execLdHH (s : State) : Outcome := loadReg s .h (s.reg8 .h) 1 4

/-- `LD H,L` (R200). -/
def execLdHL (s : State) : Outcome := loadReg s .h (s.reg8 .l) 1 4

/-- `LD H,(HL)` (R202). -/
def execLdHMemHl (s : State) : Outcome := loadReg s .h (s.readByte s.hl) 1 7

/-- `LD H,A` (R200). -/
def execLdHA (s : State) : Outcome := loadReg s .h (s.reg8 .a) 1 4

/-- `LD L,B` (R200). -/
def execLdLB (s : State) : Outcome := loadReg s .l (s.reg8 .b) 1 4

/-- `LD L,C` (R200). -/
def execLdLC (s : State) : Outcome := loadReg s .l (s.reg8 .c) 1 4

/-- `LD L,D` (R200). -/
def execLdLD (s : State) : Outcome := loadReg s .l (s.reg8 .d) 1 4

/-- `LD L,E` (R200). -/
def execLdLE (s : State) : Outcome := loadReg s .l (s.reg8 .e) 1 4

/-- `LD L,H` (R200). -/
def execLdLH (s : State) : Outcome := loadReg s .l (s.reg8 .h) 1 4

/-- `LD L,L` (R200). -/
def execLdLL (s : State) : Outcome := loadReg s .l (s.reg8 .l) 1 4

/-- `LD L,(HL)` (R202). -/
def execLdLMemHl (s : State) : Outcome := loadReg s .l (s.readByte s.hl) 1 7

/-- `LD L,A` (R200). -/
def execLdLA (s : State) : Outcome := loadReg s .l (s.reg8 .a) 1 4

/-- `LD (HL),B` (R205). -/
def execLdMemHlB (s : State) : Outcome := storeByte s s.hl (s.reg8 .b) 1 7

/-- `LD (HL),C` (R205). -/
def execLdMemHlC (s : State) : Outcome := storeByte s s.hl (s.reg8 .c) 1 7

/-- `LD (HL),D` (R205). -/
def execLdMemHlD (s : State) : Outcome := storeByte s s.hl (s.reg8 .d) 1 7

/-- `LD (HL),E` (R205). -/
def execLdMemHlE (s : State) : Outcome := storeByte s s.hl (s.reg8 .e) 1 7

/-- `LD (HL),H` (R205). -/
def execLdMemHlH (s : State) : Outcome := storeByte s s.hl (s.reg8 .h) 1 7

/-- `LD (HL),L` (R205). -/
def execLdMemHlL (s : State) : Outcome := storeByte s s.hl (s.reg8 .l) 1 7

/-- `LD (HL),A` (R205). -/
def execLdMemHlA (s : State) : Outcome := storeByte s s.hl (s.reg8 .a) 1 7

/-- `LD A,B` (R200). -/
def execLdAB (s : State) : Outcome := loadReg s .a (s.reg8 .b) 1 4

/-- `LD A,C` (R200). -/
def execLdAC (s : State) : Outcome := loadReg s .a (s.reg8 .c) 1 4

/-- `LD A,D` (R200). -/
def execLdAD (s : State) : Outcome := loadReg s .a (s.reg8 .d) 1 4

/-- `LD A,E` (R200). -/
def execLdAE (s : State) : Outcome := loadReg s .a (s.reg8 .e) 1 4

/-- `LD A,H` (R200). -/
def execLdAH (s : State) : Outcome := loadReg s .a (s.reg8 .h) 1 4

/-- `LD A,L` (R200). -/
def execLdAL (s : State) : Outcome := loadReg s .a (s.reg8 .l) 1 4

/-- `LD A,(HL)` (R202). -/
def execLdAMemHl (s : State) : Outcome := loadReg s .a (s.readByte s.hl) 1 7

/-- `LD A,A` (R200). -/
def execLdAA (s : State) : Outcome := loadReg s .a (s.reg8 .a) 1 4

/-- `LD I,A` (R219). -/
def execLdIA (s : State) : Outcome := storeToI s

/-- `LD R,A` (R220). -/
def execLdRA (s : State) : Outcome := storeToR s

/-- `LD A,I` (R217). -/
def execLdAI (s : State) : Outcome := loadFromI s

/-- `LD A,R` (R218). -/
def execLdAR (s : State) : Outcome := loadFromR s

/-- `LD (IX+d),n` (R209). -/
def execLdMemIxdN (d : Byte) (n : Byte) (s : State) : Outcome := storeByte s (s.indexed .ix d) n 4 19

/-- `LD B,(IX+d)` (R203). -/
def execLdBMemIxd (d : Byte) (s : State) : Outcome := loadReg s .b (s.readByte (s.indexed .ix d)) 3 19

/-- `LD C,(IX+d)` (R203). -/
def execLdCMemIxd (d : Byte) (s : State) : Outcome := loadReg s .c (s.readByte (s.indexed .ix d)) 3 19

/-- `LD D,(IX+d)` (R203). -/
def execLdDMemIxd (d : Byte) (s : State) : Outcome := loadReg s .d (s.readByte (s.indexed .ix d)) 3 19

/-- `LD E,(IX+d)` (R203). -/
def execLdEMemIxd (d : Byte) (s : State) : Outcome := loadReg s .e (s.readByte (s.indexed .ix d)) 3 19

/-- `LD H,(IX+d)` (R203). -/
def execLdHMemIxd (d : Byte) (s : State) : Outcome := loadReg s .h (s.readByte (s.indexed .ix d)) 3 19

/-- `LD L,(IX+d)` (R203). -/
def execLdLMemIxd (d : Byte) (s : State) : Outcome := loadReg s .l (s.readByte (s.indexed .ix d)) 3 19

/-- `LD (IX+d),B` (R206). -/
def execLdMemIxdB (d : Byte) (s : State) : Outcome := storeByte s (s.indexed .ix d) (s.reg8 .b) 3 19

/-- `LD (IX+d),C` (R206). -/
def execLdMemIxdC (d : Byte) (s : State) : Outcome := storeByte s (s.indexed .ix d) (s.reg8 .c) 3 19

/-- `LD (IX+d),D` (R206). -/
def execLdMemIxdD (d : Byte) (s : State) : Outcome := storeByte s (s.indexed .ix d) (s.reg8 .d) 3 19

/-- `LD (IX+d),E` (R206). -/
def execLdMemIxdE (d : Byte) (s : State) : Outcome := storeByte s (s.indexed .ix d) (s.reg8 .e) 3 19

/-- `LD (IX+d),H` (R206). -/
def execLdMemIxdH (d : Byte) (s : State) : Outcome := storeByte s (s.indexed .ix d) (s.reg8 .h) 3 19

/-- `LD (IX+d),L` (R206). -/
def execLdMemIxdL (d : Byte) (s : State) : Outcome := storeByte s (s.indexed .ix d) (s.reg8 .l) 3 19

/-- `LD (IX+d),A` (R206). -/
def execLdMemIxdA (d : Byte) (s : State) : Outcome := storeByte s (s.indexed .ix d) (s.reg8 .a) 3 19

/-- `LD A,(IX+d)` (R203). -/
def execLdAMemIxd (d : Byte) (s : State) : Outcome := loadReg s .a (s.readByte (s.indexed .ix d)) 3 19

/-- `LD (IY+d),n` (R210). -/
def execLdMemIydN (d : Byte) (n : Byte) (s : State) : Outcome := storeByte s (s.indexed .iy d) n 4 19

/-- `LD B,(IY+d)` (R204). -/
def execLdBMemIyd (d : Byte) (s : State) : Outcome := loadReg s .b (s.readByte (s.indexed .iy d)) 3 19

/-- `LD C,(IY+d)` (R204). -/
def execLdCMemIyd (d : Byte) (s : State) : Outcome := loadReg s .c (s.readByte (s.indexed .iy d)) 3 19

/-- `LD D,(IY+d)` (R204). -/
def execLdDMemIyd (d : Byte) (s : State) : Outcome := loadReg s .d (s.readByte (s.indexed .iy d)) 3 19

/-- `LD E,(IY+d)` (R204). -/
def execLdEMemIyd (d : Byte) (s : State) : Outcome := loadReg s .e (s.readByte (s.indexed .iy d)) 3 19

/-- `LD H,(IY+d)` (R204). -/
def execLdHMemIyd (d : Byte) (s : State) : Outcome := loadReg s .h (s.readByte (s.indexed .iy d)) 3 19

/-- `LD L,(IY+d)` (R204). -/
def execLdLMemIyd (d : Byte) (s : State) : Outcome := loadReg s .l (s.readByte (s.indexed .iy d)) 3 19

/-- `LD (IY+d),B` (R207). -/
def execLdMemIydB (d : Byte) (s : State) : Outcome := storeByte s (s.indexed .iy d) (s.reg8 .b) 3 19

/-- `LD (IY+d),C` (R207). -/
def execLdMemIydC (d : Byte) (s : State) : Outcome := storeByte s (s.indexed .iy d) (s.reg8 .c) 3 19

/-- `LD (IY+d),D` (R207). -/
def execLdMemIydD (d : Byte) (s : State) : Outcome := storeByte s (s.indexed .iy d) (s.reg8 .d) 3 19

/-- `LD (IY+d),E` (R207). -/
def execLdMemIydE (d : Byte) (s : State) : Outcome := storeByte s (s.indexed .iy d) (s.reg8 .e) 3 19

/-- `LD (IY+d),H` (R207). -/
def execLdMemIydH (d : Byte) (s : State) : Outcome := storeByte s (s.indexed .iy d) (s.reg8 .h) 3 19

/-- `LD (IY+d),L` (R207). -/
def execLdMemIydL (d : Byte) (s : State) : Outcome := storeByte s (s.indexed .iy d) (s.reg8 .l) 3 19

/-- `LD (IY+d),A` (R207). -/
def execLdMemIydA (d : Byte) (s : State) : Outcome := storeByte s (s.indexed .iy d) (s.reg8 .a) 3 19

/-- `LD A,(IY+d)` (R204). -/
def execLdAMemIyd (d : Byte) (s : State) : Outcome := loadReg s .a (s.readByte (s.indexed .iy d)) 3 19

end Sys2Proof.Machine
end

