-- ==== Sys2Proof/Machine/Rotate.lean ====
section
/-! DEFINITION. Rotates, shifts and digit rotates (46_rotate_shift.md). -/

namespace Sys2Proof.Machine

/-- `RLCA`, `RLA`, `RRCA` and `RRA` (R370 to R373). -/
def rotateAcc (s : State) (op : RotOp) (len cost : Nat) : Outcome :=
  (((s.advance len).setA (rotResult op s.cpu.main.a s.carry)).writeFlags
    fun d => rotAccFlags d s.flags (rotCarry op s.cpu.main.a)).finish cost

/-- A rotate or shift of a register (R375 to R381). -/
def rotateReg (s : State) (op : RotOp) (r : Reg8) (len cost : Nat) : Outcome :=
  (((s.advance len).setReg8 r (rotResult op (s.reg8 r) s.carry)).writeFlags
    fun d => rotFlags d (rotResult op (s.reg8 r) s.carry) (rotCarry op (s.reg8 r))).finish cost

/-- A rotate or shift of the byte at `a`: one read, one write at the same address (R374). -/
def rotateMem (s : State) (op : RotOp) (a : Word) (len cost : Nat) : Outcome :=
  (((s.advance len).writeByte a (rotResult op (s.readByte a) s.carry)).writeFlags
    fun d => rotFlags d (rotResult op (s.readByte a) s.carry) (rotCarry op (s.readByte a))).finish cost

/-- `RLD`: the new A and the new byte at HL, from A and the byte (R382). -/
def rldDigits (a t : Byte) : Byte × Byte :=
  (a.extractLsb' 4 4 ++ t.extractLsb' 4 4, t.extractLsb' 0 4 ++ a.extractLsb' 0 4)

/-- `RRD`: the new A and the new byte at HL, from A and the byte (R383). -/
def rrdDigits (a t : Byte) : Byte × Byte :=
  (a.extractLsb' 4 4 ++ t.extractLsb' 0 4, a.extractLsb' 0 4 ++ t.extractLsb' 4 4)

/-- `RLD` and `RRD` (R382, R383). -/
def digitRotate (s : State) (digits : Byte → Byte → Byte × Byte) : Outcome :=
  let r := digits s.cpu.main.a (s.readByte s.hl)
  ((((s.advance 2).writeByte s.hl r.2).setA r.1).writeFlags fun d => valueFlags d s.flags r.1).finish 18

/-! ### The meanings -/


/-- `RLCA` (R370). -/
def execRlca (s : State) : Outcome := rotateAcc s .rlc 1 4

/-- `RRCA` (R372). -/
def execRrca (s : State) : Outcome := rotateAcc s .rrc 1 4

/-- `RLA` (R371). -/
def execRla (s : State) : Outcome := rotateAcc s .rl 1 4

/-- `RRA` (R373). -/
def execRra (s : State) : Outcome := rotateAcc s .rr 1 4

/-- `RLC B` (R375). -/
def execRlcB (s : State) : Outcome := rotateReg s .rlc .b 2 8

/-- `RLC C` (R375). -/
def execRlcC (s : State) : Outcome := rotateReg s .rlc .c 2 8

/-- `RLC D` (R375). -/
def execRlcD (s : State) : Outcome := rotateReg s .rlc .d 2 8

/-- `RLC E` (R375). -/
def execRlcE (s : State) : Outcome := rotateReg s .rlc .e 2 8

/-- `RLC H` (R375). -/
def execRlcH (s : State) : Outcome := rotateReg s .rlc .h 2 8

/-- `RLC L` (R375). -/
def execRlcL (s : State) : Outcome := rotateReg s .rlc .l 2 8

/-- `RLC (HL)` (R375). -/
def execRlcMemHl (s : State) : Outcome := rotateMem s .rlc s.hl 2 15

/-- `RLC A` (R375). -/
def execRlcA (s : State) : Outcome := rotateReg s .rlc .a 2 8

/-- `RRC B` (R377). -/
def execRrcB (s : State) : Outcome := rotateReg s .rrc .b 2 8

/-- `RRC C` (R377). -/
def execRrcC (s : State) : Outcome := rotateReg s .rrc .c 2 8

/-- `RRC D` (R377). -/
def execRrcD (s : State) : Outcome := rotateReg s .rrc .d 2 8

/-- `RRC E` (R377). -/
def execRrcE (s : State) : Outcome := rotateReg s .rrc .e 2 8

/-- `RRC H` (R377). -/
def execRrcH (s : State) : Outcome := rotateReg s .rrc .h 2 8

/-- `RRC L` (R377). -/
def execRrcL (s : State) : Outcome := rotateReg s .rrc .l 2 8

/-- `RRC (HL)` (R377). -/
def execRrcMemHl (s : State) : Outcome := rotateMem s .rrc s.hl 2 15

/-- `RRC A` (R377). -/
def execRrcA (s : State) : Outcome := rotateReg s .rrc .a 2 8

/-- `RL B` (R376). -/
def execRlB (s : State) : Outcome := rotateReg s .rl .b 2 8

/-- `RL C` (R376). -/
def execRlC (s : State) : Outcome := rotateReg s .rl .c 2 8

/-- `RL D` (R376). -/
def execRlD (s : State) : Outcome := rotateReg s .rl .d 2 8

/-- `RL E` (R376). -/
def execRlE (s : State) : Outcome := rotateReg s .rl .e 2 8

/-- `RL H` (R376). -/
def execRlH (s : State) : Outcome := rotateReg s .rl .h 2 8

/-- `RL L` (R376). -/
def execRlL (s : State) : Outcome := rotateReg s .rl .l 2 8

/-- `RL (HL)` (R376). -/
def execRlMemHl (s : State) : Outcome := rotateMem s .rl s.hl 2 15

/-- `RL A` (R376). -/
def execRlA (s : State) : Outcome := rotateReg s .rl .a 2 8

/-- `RR B` (R378). -/
def execRrB (s : State) : Outcome := rotateReg s .rr .b 2 8

/-- `RR C` (R378). -/
def execRrC (s : State) : Outcome := rotateReg s .rr .c 2 8

/-- `RR D` (R378). -/
def execRrD (s : State) : Outcome := rotateReg s .rr .d 2 8

/-- `RR E` (R378). -/
def execRrE (s : State) : Outcome := rotateReg s .rr .e 2 8

/-- `RR H` (R378). -/
def execRrH (s : State) : Outcome := rotateReg s .rr .h 2 8

/-- `RR L` (R378). -/
def execRrL (s : State) : Outcome := rotateReg s .rr .l 2 8

/-- `RR (HL)` (R378). -/
def execRrMemHl (s : State) : Outcome := rotateMem s .rr s.hl 2 15

/-- `RR A` (R378). -/
def execRrA (s : State) : Outcome := rotateReg s .rr .a 2 8

/-- `SLA B` (R379). -/
def execSlaB (s : State) : Outcome := rotateReg s .sla .b 2 8

/-- `SLA C` (R379). -/
def execSlaC (s : State) : Outcome := rotateReg s .sla .c 2 8

/-- `SLA D` (R379). -/
def execSlaD (s : State) : Outcome := rotateReg s .sla .d 2 8

/-- `SLA E` (R379). -/
def execSlaE (s : State) : Outcome := rotateReg s .sla .e 2 8

/-- `SLA H` (R379). -/
def execSlaH (s : State) : Outcome := rotateReg s .sla .h 2 8

/-- `SLA L` (R379). -/
def execSlaL (s : State) : Outcome := rotateReg s .sla .l 2 8

/-- `SLA (HL)` (R379). -/
def execSlaMemHl (s : State) : Outcome := rotateMem s .sla s.hl 2 15

/-- `SLA A` (R379). -/
def execSlaA (s : State) : Outcome := rotateReg s .sla .a 2 8

/-- `SRA B` (R380). -/
def execSraB (s : State) : Outcome := rotateReg s .sra .b 2 8

/-- `SRA C` (R380). -/
def execSraC (s : State) : Outcome := rotateReg s .sra .c 2 8

/-- `SRA D` (R380). -/
def execSraD (s : State) : Outcome := rotateReg s .sra .d 2 8

/-- `SRA E` (R380). -/
def execSraE (s : State) : Outcome := rotateReg s .sra .e 2 8

/-- `SRA H` (R380). -/
def execSraH (s : State) : Outcome := rotateReg s .sra .h 2 8

/-- `SRA L` (R380). -/
def execSraL (s : State) : Outcome := rotateReg s .sra .l 2 8

/-- `SRA (HL)` (R380). -/
def execSraMemHl (s : State) : Outcome := rotateMem s .sra s.hl 2 15

/-- `SRA A` (R380). -/
def execSraA (s : State) : Outcome := rotateReg s .sra .a 2 8

/-- `SRL B` (R381). -/
def execSrlB (s : State) : Outcome := rotateReg s .srl .b 2 8

/-- `SRL C` (R381). -/
def execSrlC (s : State) : Outcome := rotateReg s .srl .c 2 8

/-- `SRL D` (R381). -/
def execSrlD (s : State) : Outcome := rotateReg s .srl .d 2 8

/-- `SRL E` (R381). -/
def execSrlE (s : State) : Outcome := rotateReg s .srl .e 2 8

/-- `SRL H` (R381). -/
def execSrlH (s : State) : Outcome := rotateReg s .srl .h 2 8

/-- `SRL L` (R381). -/
def execSrlL (s : State) : Outcome := rotateReg s .srl .l 2 8

/-- `SRL (HL)` (R381). -/
def execSrlMemHl (s : State) : Outcome := rotateMem s .srl s.hl 2 15

/-- `SRL A` (R381). -/
def execSrlA (s : State) : Outcome := rotateReg s .srl .a 2 8

/-- `RRD` (R383). -/
def execRrd (s : State) : Outcome := digitRotate s rrdDigits

/-- `RLD` (R382). -/
def execRld (s : State) : Outcome := digitRotate s rldDigits

/-- `RLC (IX+d)` (R375). -/
def execRlcMemIxd (d : Byte) (s : State) : Outcome := rotateMem s .rlc (s.indexed .ix d) 4 23

/-- `RRC (IX+d)` (R377). -/
def execRrcMemIxd (d : Byte) (s : State) : Outcome := rotateMem s .rrc (s.indexed .ix d) 4 23

/-- `RL (IX+d)` (R376). -/
def execRlMemIxd (d : Byte) (s : State) : Outcome := rotateMem s .rl (s.indexed .ix d) 4 23

/-- `RR (IX+d)` (R378). -/
def execRrMemIxd (d : Byte) (s : State) : Outcome := rotateMem s .rr (s.indexed .ix d) 4 23

/-- `SLA (IX+d)` (R379). -/
def execSlaMemIxd (d : Byte) (s : State) : Outcome := rotateMem s .sla (s.indexed .ix d) 4 23

/-- `SRA (IX+d)` (R380). -/
def execSraMemIxd (d : Byte) (s : State) : Outcome := rotateMem s .sra (s.indexed .ix d) 4 23

/-- `SRL (IX+d)` (R381). -/
def execSrlMemIxd (d : Byte) (s : State) : Outcome := rotateMem s .srl (s.indexed .ix d) 4 23

/-- `RLC (IY+d)` (R375). -/
def execRlcMemIyd (d : Byte) (s : State) : Outcome := rotateMem s .rlc (s.indexed .iy d) 4 23

/-- `RRC (IY+d)` (R377). -/
def execRrcMemIyd (d : Byte) (s : State) : Outcome := rotateMem s .rrc (s.indexed .iy d) 4 23

/-- `RL (IY+d)` (R376). -/
def execRlMemIyd (d : Byte) (s : State) : Outcome := rotateMem s .rl (s.indexed .iy d) 4 23

/-- `RR (IY+d)` (R378). -/
def execRrMemIyd (d : Byte) (s : State) : Outcome := rotateMem s .rr (s.indexed .iy d) 4 23

/-- `SLA (IY+d)` (R379). -/
def execSlaMemIyd (d : Byte) (s : State) : Outcome := rotateMem s .sla (s.indexed .iy d) 4 23

/-- `SRA (IY+d)` (R380). -/
def execSraMemIyd (d : Byte) (s : State) : Outcome := rotateMem s .sra (s.indexed .iy d) 4 23

/-- `SRL (IY+d)` (R381). -/
def execSrlMemIyd (d : Byte) (s : State) : Outcome := rotateMem s .srl (s.indexed .iy d) 4 23

end Sys2Proof.Machine
end

