-- ==== Sys2Proof/Machine/Dispatch.lean ====
section
/-! DEFINITION. One arm per instruction, each one call of that instruction's own meaning. -/

namespace Sys2Proof.Machine

def exec (i : Instr) (s : State) : Host.Outcome State Fault Refusal :=
  match i with
  | .nop => Sys2Proof.Machine.execNop s
  | .ldBcNn nn => Sys2Proof.Machine.execLdBcNn nn s
  | .ldMemBcA => Sys2Proof.Machine.execLdMemBcA s
  | .incBc => Sys2Proof.Machine.execIncBc s
  | .incB => Sys2Proof.Machine.execIncB s
  | .decB => Sys2Proof.Machine.execDecB s
  | .ldBN n => Sys2Proof.Machine.execLdBN n s
  | .rlca => Sys2Proof.Machine.execRlca s
  | .exAfAfAlt => Sys2Proof.Machine.execExAfAfAlt s
  | .addHlBc => Sys2Proof.Machine.execAddHlBc s
  | .ldAMemBc => Sys2Proof.Machine.execLdAMemBc s
  | .decBc => Sys2Proof.Machine.execDecBc s
  | .incC => Sys2Proof.Machine.execIncC s
  | .decC => Sys2Proof.Machine.execDecC s
  | .ldCN n => Sys2Proof.Machine.execLdCN n s
  | .rrca => Sys2Proof.Machine.execRrca s
  | .djnzE e => Sys2Proof.Machine.execDjnzE e s
  | .ldDeNn nn => Sys2Proof.Machine.execLdDeNn nn s
  | .ldMemDeA => Sys2Proof.Machine.execLdMemDeA s
  | .incDe => Sys2Proof.Machine.execIncDe s
  | .incD => Sys2Proof.Machine.execIncD s
  | .decD => Sys2Proof.Machine.execDecD s
  | .ldDN n => Sys2Proof.Machine.execLdDN n s
  | .rla => Sys2Proof.Machine.execRla s
  | .jrE e => Sys2Proof.Machine.execJrE e s
  | .addHlDe => Sys2Proof.Machine.execAddHlDe s
  | .ldAMemDe => Sys2Proof.Machine.execLdAMemDe s
  | .decDe => Sys2Proof.Machine.execDecDe s
  | .incE => Sys2Proof.Machine.execIncE s
  | .decE => Sys2Proof.Machine.execDecE s
  | .ldEN n => Sys2Proof.Machine.execLdEN n s
  | .rra => Sys2Proof.Machine.execRra s
  | .jrNzE e => Sys2Proof.Machine.execJrNzE e s
  | .ldHlNn nn => Sys2Proof.Machine.execLdHlNn nn s
  | .ldMemNnHl nn => Sys2Proof.Machine.execLdMemNnHl nn s
  | .incHl => Sys2Proof.Machine.execIncHl s
  | .incH => Sys2Proof.Machine.execIncH s
  | .decH => Sys2Proof.Machine.execDecH s
  | .ldHN n => Sys2Proof.Machine.execLdHN n s
  | .daa => Sys2Proof.Machine.execDaa s
  | .jrZE e => Sys2Proof.Machine.execJrZE e s
  | .addHlHl => Sys2Proof.Machine.execAddHlHl s
  | .ldHlMemNn nn => Sys2Proof.Machine.execLdHlMemNn nn s
  | .decHl => Sys2Proof.Machine.execDecHl s
  | .incL => Sys2Proof.Machine.execIncL s
  | .decL => Sys2Proof.Machine.execDecL s
  | .ldLN n => Sys2Proof.Machine.execLdLN n s
  | .cpl => Sys2Proof.Machine.execCpl s
  | .jrNcE e => Sys2Proof.Machine.execJrNcE e s
  | .ldSpNn nn => Sys2Proof.Machine.execLdSpNn nn s
  | .ldMemNnA nn => Sys2Proof.Machine.execLdMemNnA nn s
  | .incSp => Sys2Proof.Machine.execIncSp s
  | .incMemHl => Sys2Proof.Machine.execIncMemHl s
  | .decMemHl => Sys2Proof.Machine.execDecMemHl s
  | .ldMemHlN n => Sys2Proof.Machine.execLdMemHlN n s
  | .scf => Sys2Proof.Machine.execScf s
  | .jrCE e => Sys2Proof.Machine.execJrCE e s
  | .addHlSp => Sys2Proof.Machine.execAddHlSp s
  | .ldAMemNn nn => Sys2Proof.Machine.execLdAMemNn nn s
  | .decSp => Sys2Proof.Machine.execDecSp s
  | .incA => Sys2Proof.Machine.execIncA s
  | .decA => Sys2Proof.Machine.execDecA s
  | .ldAN n => Sys2Proof.Machine.execLdAN n s
  | .ccf => Sys2Proof.Machine.execCcf s
  | .ldBB => Sys2Proof.Machine.execLdBB s
  | .ldBC => Sys2Proof.Machine.execLdBC s
  | .ldBD => Sys2Proof.Machine.execLdBD s
  | .ldBE => Sys2Proof.Machine.execLdBE s
  | .ldBH => Sys2Proof.Machine.execLdBH s
  | .ldBL => Sys2Proof.Machine.execLdBL s
  | .ldBMemHl => Sys2Proof.Machine.execLdBMemHl s
  | .ldBA => Sys2Proof.Machine.execLdBA s
  | .ldCB => Sys2Proof.Machine.execLdCB s
  | .ldCC => Sys2Proof.Machine.execLdCC s
  | .ldCD => Sys2Proof.Machine.execLdCD s
  | .ldCE => Sys2Proof.Machine.execLdCE s
  | .ldCH => Sys2Proof.Machine.execLdCH s
  | .ldCL => Sys2Proof.Machine.execLdCL s
  | .ldCMemHl => Sys2Proof.Machine.execLdCMemHl s
  | .ldCA => Sys2Proof.Machine.execLdCA s
  | .ldDB => Sys2Proof.Machine.execLdDB s
  | .ldDC => Sys2Proof.Machine.execLdDC s
  | .ldDD => Sys2Proof.Machine.execLdDD s
  | .ldDE => Sys2Proof.Machine.execLdDE s
  | .ldDH => Sys2Proof.Machine.execLdDH s
  | .ldDL => Sys2Proof.Machine.execLdDL s
  | .ldDMemHl => Sys2Proof.Machine.execLdDMemHl s
  | .ldDA => Sys2Proof.Machine.execLdDA s
  | .ldEB => Sys2Proof.Machine.execLdEB s
  | .ldEC => Sys2Proof.Machine.execLdEC s
  | .ldED => Sys2Proof.Machine.execLdED s
  | .ldEE => Sys2Proof.Machine.execLdEE s
  | .ldEH => Sys2Proof.Machine.execLdEH s
  | .ldEL => Sys2Proof.Machine.execLdEL s
  | .ldEMemHl => Sys2Proof.Machine.execLdEMemHl s
  | .ldEA => Sys2Proof.Machine.execLdEA s
  | .ldHB => Sys2Proof.Machine.execLdHB s
  | .ldHC => Sys2Proof.Machine.execLdHC s
  | .ldHD => Sys2Proof.Machine.execLdHD s
  | .ldHE => Sys2Proof.Machine.execLdHE s
  | .ldHH => Sys2Proof.Machine.execLdHH s
  | .ldHL => Sys2Proof.Machine.execLdHL s
  | .ldHMemHl => Sys2Proof.Machine.execLdHMemHl s
  | .ldHA => Sys2Proof.Machine.execLdHA s
  | .ldLB => Sys2Proof.Machine.execLdLB s
  | .ldLC => Sys2Proof.Machine.execLdLC s
  | .ldLD => Sys2Proof.Machine.execLdLD s
  | .ldLE => Sys2Proof.Machine.execLdLE s
  | .ldLH => Sys2Proof.Machine.execLdLH s
  | .ldLL => Sys2Proof.Machine.execLdLL s
  | .ldLMemHl => Sys2Proof.Machine.execLdLMemHl s
  | .ldLA => Sys2Proof.Machine.execLdLA s
  | .ldMemHlB => Sys2Proof.Machine.execLdMemHlB s
  | .ldMemHlC => Sys2Proof.Machine.execLdMemHlC s
  | .ldMemHlD => Sys2Proof.Machine.execLdMemHlD s
  | .ldMemHlE => Sys2Proof.Machine.execLdMemHlE s
  | .ldMemHlH => Sys2Proof.Machine.execLdMemHlH s
  | .ldMemHlL => Sys2Proof.Machine.execLdMemHlL s
  | .halt => Sys2Proof.Machine.execHalt s
  | .ldMemHlA => Sys2Proof.Machine.execLdMemHlA s
  | .ldAB => Sys2Proof.Machine.execLdAB s
  | .ldAC => Sys2Proof.Machine.execLdAC s
  | .ldAD => Sys2Proof.Machine.execLdAD s
  | .ldAE => Sys2Proof.Machine.execLdAE s
  | .ldAH => Sys2Proof.Machine.execLdAH s
  | .ldAL => Sys2Proof.Machine.execLdAL s
  | .ldAMemHl => Sys2Proof.Machine.execLdAMemHl s
  | .ldAA => Sys2Proof.Machine.execLdAA s
  | .addAB => Sys2Proof.Machine.execAddAB s
  | .addAC => Sys2Proof.Machine.execAddAC s
  | .addAD => Sys2Proof.Machine.execAddAD s
  | .addAE => Sys2Proof.Machine.execAddAE s
  | .addAH => Sys2Proof.Machine.execAddAH s
  | .addAL => Sys2Proof.Machine.execAddAL s
  | .addAMemHl => Sys2Proof.Machine.execAddAMemHl s
  | .addAA => Sys2Proof.Machine.execAddAA s
  | .adcAB => Sys2Proof.Machine.execAdcAB s
  | .adcAC => Sys2Proof.Machine.execAdcAC s
  | .adcAD => Sys2Proof.Machine.execAdcAD s
  | .adcAE => Sys2Proof.Machine.execAdcAE s
  | .adcAH => Sys2Proof.Machine.execAdcAH s
  | .adcAL => Sys2Proof.Machine.execAdcAL s
  | .adcAMemHl => Sys2Proof.Machine.execAdcAMemHl s
  | .adcAA => Sys2Proof.Machine.execAdcAA s
  | .subB => Sys2Proof.Machine.execSubB s
  | .subC => Sys2Proof.Machine.execSubC s
  | .subD => Sys2Proof.Machine.execSubD s
  | .subE => Sys2Proof.Machine.execSubE s
  | .subH => Sys2Proof.Machine.execSubH s
  | .subL => Sys2Proof.Machine.execSubL s
  | .subMemHl => Sys2Proof.Machine.execSubMemHl s
  | .subA => Sys2Proof.Machine.execSubA s
  | .sbcAB => Sys2Proof.Machine.execSbcAB s
  | .sbcAC => Sys2Proof.Machine.execSbcAC s
  | .sbcAD => Sys2Proof.Machine.execSbcAD s
  | .sbcAE => Sys2Proof.Machine.execSbcAE s
  | .sbcAH => Sys2Proof.Machine.execSbcAH s
  | .sbcAL => Sys2Proof.Machine.execSbcAL s
  | .sbcAMemHl => Sys2Proof.Machine.execSbcAMemHl s
  | .sbcAA => Sys2Proof.Machine.execSbcAA s
  | .andB => Sys2Proof.Machine.execAndB s
  | .andC => Sys2Proof.Machine.execAndC s
  | .andD => Sys2Proof.Machine.execAndD s
  | .andE => Sys2Proof.Machine.execAndE s
  | .andH => Sys2Proof.Machine.execAndH s
  | .andL => Sys2Proof.Machine.execAndL s
  | .andMemHl => Sys2Proof.Machine.execAndMemHl s
  | .andA => Sys2Proof.Machine.execAndA s
  | .xorB => Sys2Proof.Machine.execXorB s
  | .xorC => Sys2Proof.Machine.execXorC s
  | .xorD => Sys2Proof.Machine.execXorD s
  | .xorE => Sys2Proof.Machine.execXorE s
  | .xorH => Sys2Proof.Machine.execXorH s
  | .xorL => Sys2Proof.Machine.execXorL s
  | .xorMemHl => Sys2Proof.Machine.execXorMemHl s
  | .xorA => Sys2Proof.Machine.execXorA s
  | .orB => Sys2Proof.Machine.execOrB s
  | .orC => Sys2Proof.Machine.execOrC s
  | .orD => Sys2Proof.Machine.execOrD s
  | .orE => Sys2Proof.Machine.execOrE s
  | .orH => Sys2Proof.Machine.execOrH s
  | .orL => Sys2Proof.Machine.execOrL s
  | .orMemHl => Sys2Proof.Machine.execOrMemHl s
  | .orA => Sys2Proof.Machine.execOrA s
  | .cpB => Sys2Proof.Machine.execCpB s
  | .cpC => Sys2Proof.Machine.execCpC s
  | .cpD => Sys2Proof.Machine.execCpD s
  | .cpE => Sys2Proof.Machine.execCpE s
  | .cpH => Sys2Proof.Machine.execCpH s
  | .cpL => Sys2Proof.Machine.execCpL s
  | .cpMemHl => Sys2Proof.Machine.execCpMemHl s
  | .cpA => Sys2Proof.Machine.execCpA s
  | .retNz => Sys2Proof.Machine.execRetNz s
  | .popBc => Sys2Proof.Machine.execPopBc s
  | .jpNzNn nn => Sys2Proof.Machine.execJpNzNn nn s
  | .jpNn nn => Sys2Proof.Machine.execJpNn nn s
  | .callNzNn nn => Sys2Proof.Machine.execCallNzNn nn s
  | .pushBc => Sys2Proof.Machine.execPushBc s
  | .addAN n => Sys2Proof.Machine.execAddAN n s
  | .rst00 => Sys2Proof.Machine.execRst00 s
  | .retZ => Sys2Proof.Machine.execRetZ s
  | .ret => Sys2Proof.Machine.execRet s
  | .jpZNn nn => Sys2Proof.Machine.execJpZNn nn s
  | .callZNn nn => Sys2Proof.Machine.execCallZNn nn s
  | .callNn nn => Sys2Proof.Machine.execCallNn nn s
  | .adcAN n => Sys2Proof.Machine.execAdcAN n s
  | .rst08 => Sys2Proof.Machine.execRst08 s
  | .retNc => Sys2Proof.Machine.execRetNc s
  | .popDe => Sys2Proof.Machine.execPopDe s
  | .jpNcNn nn => Sys2Proof.Machine.execJpNcNn nn s
  | .outPortNA n => Sys2Proof.Machine.execOutPortNA n s
  | .callNcNn nn => Sys2Proof.Machine.execCallNcNn nn s
  | .pushDe => Sys2Proof.Machine.execPushDe s
  | .subN n => Sys2Proof.Machine.execSubN n s
  | .rst10 => Sys2Proof.Machine.execRst10 s
  | .retC => Sys2Proof.Machine.execRetC s
  | .exx => Sys2Proof.Machine.execExx s
  | .jpCNn nn => Sys2Proof.Machine.execJpCNn nn s
  | .inAPortN n => Sys2Proof.Machine.execInAPortN n s
  | .callCNn nn => Sys2Proof.Machine.execCallCNn nn s
  | .sbcAN n => Sys2Proof.Machine.execSbcAN n s
  | .rst18 => Sys2Proof.Machine.execRst18 s
  | .retPo => Sys2Proof.Machine.execRetPo s
  | .popHl => Sys2Proof.Machine.execPopHl s
  | .jpPoNn nn => Sys2Proof.Machine.execJpPoNn nn s
  | .exMemSpHl => Sys2Proof.Machine.execExMemSpHl s
  | .callPoNn nn => Sys2Proof.Machine.execCallPoNn nn s
  | .pushHl => Sys2Proof.Machine.execPushHl s
  | .andN n => Sys2Proof.Machine.execAndN n s
  | .rst20 => Sys2Proof.Machine.execRst20 s
  | .retPe => Sys2Proof.Machine.execRetPe s
  | .jpHl => Sys2Proof.Machine.execJpHl s
  | .jpPeNn nn => Sys2Proof.Machine.execJpPeNn nn s
  | .exDeHl => Sys2Proof.Machine.execExDeHl s
  | .callPeNn nn => Sys2Proof.Machine.execCallPeNn nn s
  | .xorN n => Sys2Proof.Machine.execXorN n s
  | .rst28 => Sys2Proof.Machine.execRst28 s
  | .retP => Sys2Proof.Machine.execRetP s
  | .popAf => Sys2Proof.Machine.execPopAf s
  | .jpPNn nn => Sys2Proof.Machine.execJpPNn nn s
  | .di => Sys2Proof.Machine.execDi s
  | .callPNn nn => Sys2Proof.Machine.execCallPNn nn s
  | .pushAf => Sys2Proof.Machine.execPushAf s
  | .orN n => Sys2Proof.Machine.execOrN n s
  | .rst30 => Sys2Proof.Machine.execRst30 s
  | .retM => Sys2Proof.Machine.execRetM s
  | .ldSpHl => Sys2Proof.Machine.execLdSpHl s
  | .jpMNn nn => Sys2Proof.Machine.execJpMNn nn s
  | .ei => Sys2Proof.Machine.execEi s
  | .callMNn nn => Sys2Proof.Machine.execCallMNn nn s
  | .cpN n => Sys2Proof.Machine.execCpN n s
  | .rst38 => Sys2Proof.Machine.execRst38 s
  | .rlcB => Sys2Proof.Machine.execRlcB s
  | .rlcC => Sys2Proof.Machine.execRlcC s
  | .rlcD => Sys2Proof.Machine.execRlcD s
  | .rlcE => Sys2Proof.Machine.execRlcE s
  | .rlcH => Sys2Proof.Machine.execRlcH s
  | .rlcL => Sys2Proof.Machine.execRlcL s
  | .rlcMemHl => Sys2Proof.Machine.execRlcMemHl s
  | .rlcA => Sys2Proof.Machine.execRlcA s
  | .rrcB => Sys2Proof.Machine.execRrcB s
  | .rrcC => Sys2Proof.Machine.execRrcC s
  | .rrcD => Sys2Proof.Machine.execRrcD s
  | .rrcE => Sys2Proof.Machine.execRrcE s
  | .rrcH => Sys2Proof.Machine.execRrcH s
  | .rrcL => Sys2Proof.Machine.execRrcL s
  | .rrcMemHl => Sys2Proof.Machine.execRrcMemHl s
  | .rrcA => Sys2Proof.Machine.execRrcA s
  | .rlB => Sys2Proof.Machine.execRlB s
  | .rlC => Sys2Proof.Machine.execRlC s
  | .rlD => Sys2Proof.Machine.execRlD s
  | .rlE => Sys2Proof.Machine.execRlE s
  | .rlH => Sys2Proof.Machine.execRlH s
  | .rlL => Sys2Proof.Machine.execRlL s
  | .rlMemHl => Sys2Proof.Machine.execRlMemHl s
  | .rlA => Sys2Proof.Machine.execRlA s
  | .rrB => Sys2Proof.Machine.execRrB s
  | .rrC => Sys2Proof.Machine.execRrC s
  | .rrD => Sys2Proof.Machine.execRrD s
  | .rrE => Sys2Proof.Machine.execRrE s
  | .rrH => Sys2Proof.Machine.execRrH s
  | .rrL => Sys2Proof.Machine.execRrL s
  | .rrMemHl => Sys2Proof.Machine.execRrMemHl s
  | .rrA => Sys2Proof.Machine.execRrA s
  | .slaB => Sys2Proof.Machine.execSlaB s
  | .slaC => Sys2Proof.Machine.execSlaC s
  | .slaD => Sys2Proof.Machine.execSlaD s
  | .slaE => Sys2Proof.Machine.execSlaE s
  | .slaH => Sys2Proof.Machine.execSlaH s
  | .slaL => Sys2Proof.Machine.execSlaL s
  | .slaMemHl => Sys2Proof.Machine.execSlaMemHl s
  | .slaA => Sys2Proof.Machine.execSlaA s
  | .sraB => Sys2Proof.Machine.execSraB s
  | .sraC => Sys2Proof.Machine.execSraC s
  | .sraD => Sys2Proof.Machine.execSraD s
  | .sraE => Sys2Proof.Machine.execSraE s
  | .sraH => Sys2Proof.Machine.execSraH s
  | .sraL => Sys2Proof.Machine.execSraL s
  | .sraMemHl => Sys2Proof.Machine.execSraMemHl s
  | .sraA => Sys2Proof.Machine.execSraA s
  | .srlB => Sys2Proof.Machine.execSrlB s
  | .srlC => Sys2Proof.Machine.execSrlC s
  | .srlD => Sys2Proof.Machine.execSrlD s
  | .srlE => Sys2Proof.Machine.execSrlE s
  | .srlH => Sys2Proof.Machine.execSrlH s
  | .srlL => Sys2Proof.Machine.execSrlL s
  | .srlMemHl => Sys2Proof.Machine.execSrlMemHl s
  | .srlA => Sys2Proof.Machine.execSrlA s
  | .bit0B => Sys2Proof.Machine.execBit0B s
  | .bit0C => Sys2Proof.Machine.execBit0C s
  | .bit0D => Sys2Proof.Machine.execBit0D s
  | .bit0E => Sys2Proof.Machine.execBit0E s
  | .bit0H => Sys2Proof.Machine.execBit0H s
  | .bit0L => Sys2Proof.Machine.execBit0L s
  | .bit0MemHl => Sys2Proof.Machine.execBit0MemHl s
  | .bit0A => Sys2Proof.Machine.execBit0A s
  | .bit1B => Sys2Proof.Machine.execBit1B s
  | .bit1C => Sys2Proof.Machine.execBit1C s
  | .bit1D => Sys2Proof.Machine.execBit1D s
  | .bit1E => Sys2Proof.Machine.execBit1E s
  | .bit1H => Sys2Proof.Machine.execBit1H s
  | .bit1L => Sys2Proof.Machine.execBit1L s
  | .bit1MemHl => Sys2Proof.Machine.execBit1MemHl s
  | .bit1A => Sys2Proof.Machine.execBit1A s
  | .bit2B => Sys2Proof.Machine.execBit2B s
  | .bit2C => Sys2Proof.Machine.execBit2C s
  | .bit2D => Sys2Proof.Machine.execBit2D s
  | .bit2E => Sys2Proof.Machine.execBit2E s
  | .bit2H => Sys2Proof.Machine.execBit2H s
  | .bit2L => Sys2Proof.Machine.execBit2L s
  | .bit2MemHl => Sys2Proof.Machine.execBit2MemHl s
  | .bit2A => Sys2Proof.Machine.execBit2A s
  | .bit3B => Sys2Proof.Machine.execBit3B s
  | .bit3C => Sys2Proof.Machine.execBit3C s
  | .bit3D => Sys2Proof.Machine.execBit3D s
  | .bit3E => Sys2Proof.Machine.execBit3E s
  | .bit3H => Sys2Proof.Machine.execBit3H s
  | .bit3L => Sys2Proof.Machine.execBit3L s
  | .bit3MemHl => Sys2Proof.Machine.execBit3MemHl s
  | .bit3A => Sys2Proof.Machine.execBit3A s
  | .bit4B => Sys2Proof.Machine.execBit4B s
  | .bit4C => Sys2Proof.Machine.execBit4C s
  | .bit4D => Sys2Proof.Machine.execBit4D s
  | .bit4E => Sys2Proof.Machine.execBit4E s
  | .bit4H => Sys2Proof.Machine.execBit4H s
  | .bit4L => Sys2Proof.Machine.execBit4L s
  | .bit4MemHl => Sys2Proof.Machine.execBit4MemHl s
  | .bit4A => Sys2Proof.Machine.execBit4A s
  | .bit5B => Sys2Proof.Machine.execBit5B s
  | .bit5C => Sys2Proof.Machine.execBit5C s
  | .bit5D => Sys2Proof.Machine.execBit5D s
  | .bit5E => Sys2Proof.Machine.execBit5E s
  | .bit5H => Sys2Proof.Machine.execBit5H s
  | .bit5L => Sys2Proof.Machine.execBit5L s
  | .bit5MemHl => Sys2Proof.Machine.execBit5MemHl s
  | .bit5A => Sys2Proof.Machine.execBit5A s
  | .bit6B => Sys2Proof.Machine.execBit6B s
  | .bit6C => Sys2Proof.Machine.execBit6C s
  | .bit6D => Sys2Proof.Machine.execBit6D s
  | .bit6E => Sys2Proof.Machine.execBit6E s
  | .bit6H => Sys2Proof.Machine.execBit6H s
  | .bit6L => Sys2Proof.Machine.execBit6L s
  | .bit6MemHl => Sys2Proof.Machine.execBit6MemHl s
  | .bit6A => Sys2Proof.Machine.execBit6A s
  | .bit7B => Sys2Proof.Machine.execBit7B s
  | .bit7C => Sys2Proof.Machine.execBit7C s
  | .bit7D => Sys2Proof.Machine.execBit7D s
  | .bit7E => Sys2Proof.Machine.execBit7E s
  | .bit7H => Sys2Proof.Machine.execBit7H s
  | .bit7L => Sys2Proof.Machine.execBit7L s
  | .bit7MemHl => Sys2Proof.Machine.execBit7MemHl s
  | .bit7A => Sys2Proof.Machine.execBit7A s
  | .res0B => Sys2Proof.Machine.execRes0B s
  | .res0C => Sys2Proof.Machine.execRes0C s
  | .res0D => Sys2Proof.Machine.execRes0D s
  | .res0E => Sys2Proof.Machine.execRes0E s
  | .res0H => Sys2Proof.Machine.execRes0H s
  | .res0L => Sys2Proof.Machine.execRes0L s
  | .res0MemHl => Sys2Proof.Machine.execRes0MemHl s
  | .res0A => Sys2Proof.Machine.execRes0A s
  | .res1B => Sys2Proof.Machine.execRes1B s
  | .res1C => Sys2Proof.Machine.execRes1C s
  | .res1D => Sys2Proof.Machine.execRes1D s
  | .res1E => Sys2Proof.Machine.execRes1E s
  | .res1H => Sys2Proof.Machine.execRes1H s
  | .res1L => Sys2Proof.Machine.execRes1L s
  | .res1MemHl => Sys2Proof.Machine.execRes1MemHl s
  | .res1A => Sys2Proof.Machine.execRes1A s
  | .res2B => Sys2Proof.Machine.execRes2B s
  | .res2C => Sys2Proof.Machine.execRes2C s
  | .res2D => Sys2Proof.Machine.execRes2D s
  | .res2E => Sys2Proof.Machine.execRes2E s
  | .res2H => Sys2Proof.Machine.execRes2H s
  | .res2L => Sys2Proof.Machine.execRes2L s
  | .res2MemHl => Sys2Proof.Machine.execRes2MemHl s
  | .res2A => Sys2Proof.Machine.execRes2A s
  | .res3B => Sys2Proof.Machine.execRes3B s
  | .res3C => Sys2Proof.Machine.execRes3C s
  | .res3D => Sys2Proof.Machine.execRes3D s
  | .res3E => Sys2Proof.Machine.execRes3E s
  | .res3H => Sys2Proof.Machine.execRes3H s
  | .res3L => Sys2Proof.Machine.execRes3L s
  | .res3MemHl => Sys2Proof.Machine.execRes3MemHl s
  | .res3A => Sys2Proof.Machine.execRes3A s
  | .res4B => Sys2Proof.Machine.execRes4B s
  | .res4C => Sys2Proof.Machine.execRes4C s
  | .res4D => Sys2Proof.Machine.execRes4D s
  | .res4E => Sys2Proof.Machine.execRes4E s
  | .res4H => Sys2Proof.Machine.execRes4H s
  | .res4L => Sys2Proof.Machine.execRes4L s
  | .res4MemHl => Sys2Proof.Machine.execRes4MemHl s
  | .res4A => Sys2Proof.Machine.execRes4A s
  | .res5B => Sys2Proof.Machine.execRes5B s
  | .res5C => Sys2Proof.Machine.execRes5C s
  | .res5D => Sys2Proof.Machine.execRes5D s
  | .res5E => Sys2Proof.Machine.execRes5E s
  | .res5H => Sys2Proof.Machine.execRes5H s
  | .res5L => Sys2Proof.Machine.execRes5L s
  | .res5MemHl => Sys2Proof.Machine.execRes5MemHl s
  | .res5A => Sys2Proof.Machine.execRes5A s
  | .res6B => Sys2Proof.Machine.execRes6B s
  | .res6C => Sys2Proof.Machine.execRes6C s
  | .res6D => Sys2Proof.Machine.execRes6D s
  | .res6E => Sys2Proof.Machine.execRes6E s
  | .res6H => Sys2Proof.Machine.execRes6H s
  | .res6L => Sys2Proof.Machine.execRes6L s
  | .res6MemHl => Sys2Proof.Machine.execRes6MemHl s
  | .res6A => Sys2Proof.Machine.execRes6A s
  | .res7B => Sys2Proof.Machine.execRes7B s
  | .res7C => Sys2Proof.Machine.execRes7C s
  | .res7D => Sys2Proof.Machine.execRes7D s
  | .res7E => Sys2Proof.Machine.execRes7E s
  | .res7H => Sys2Proof.Machine.execRes7H s
  | .res7L => Sys2Proof.Machine.execRes7L s
  | .res7MemHl => Sys2Proof.Machine.execRes7MemHl s
  | .res7A => Sys2Proof.Machine.execRes7A s
  | .set0B => Sys2Proof.Machine.execSet0B s
  | .set0C => Sys2Proof.Machine.execSet0C s
  | .set0D => Sys2Proof.Machine.execSet0D s
  | .set0E => Sys2Proof.Machine.execSet0E s
  | .set0H => Sys2Proof.Machine.execSet0H s
  | .set0L => Sys2Proof.Machine.execSet0L s
  | .set0MemHl => Sys2Proof.Machine.execSet0MemHl s
  | .set0A => Sys2Proof.Machine.execSet0A s
  | .set1B => Sys2Proof.Machine.execSet1B s
  | .set1C => Sys2Proof.Machine.execSet1C s
  | .set1D => Sys2Proof.Machine.execSet1D s
  | .set1E => Sys2Proof.Machine.execSet1E s
  | .set1H => Sys2Proof.Machine.execSet1H s
  | .set1L => Sys2Proof.Machine.execSet1L s
  | .set1MemHl => Sys2Proof.Machine.execSet1MemHl s
  | .set1A => Sys2Proof.Machine.execSet1A s
  | .set2B => Sys2Proof.Machine.execSet2B s
  | .set2C => Sys2Proof.Machine.execSet2C s
  | .set2D => Sys2Proof.Machine.execSet2D s
  | .set2E => Sys2Proof.Machine.execSet2E s
  | .set2H => Sys2Proof.Machine.execSet2H s
  | .set2L => Sys2Proof.Machine.execSet2L s
  | .set2MemHl => Sys2Proof.Machine.execSet2MemHl s
  | .set2A => Sys2Proof.Machine.execSet2A s
  | .set3B => Sys2Proof.Machine.execSet3B s
  | .set3C => Sys2Proof.Machine.execSet3C s
  | .set3D => Sys2Proof.Machine.execSet3D s
  | .set3E => Sys2Proof.Machine.execSet3E s
  | .set3H => Sys2Proof.Machine.execSet3H s
  | .set3L => Sys2Proof.Machine.execSet3L s
  | .set3MemHl => Sys2Proof.Machine.execSet3MemHl s
  | .set3A => Sys2Proof.Machine.execSet3A s
  | .set4B => Sys2Proof.Machine.execSet4B s
  | .set4C => Sys2Proof.Machine.execSet4C s
  | .set4D => Sys2Proof.Machine.execSet4D s
  | .set4E => Sys2Proof.Machine.execSet4E s
  | .set4H => Sys2Proof.Machine.execSet4H s
  | .set4L => Sys2Proof.Machine.execSet4L s
  | .set4MemHl => Sys2Proof.Machine.execSet4MemHl s
  | .set4A => Sys2Proof.Machine.execSet4A s
  | .set5B => Sys2Proof.Machine.execSet5B s
  | .set5C => Sys2Proof.Machine.execSet5C s
  | .set5D => Sys2Proof.Machine.execSet5D s
  | .set5E => Sys2Proof.Machine.execSet5E s
  | .set5H => Sys2Proof.Machine.execSet5H s
  | .set5L => Sys2Proof.Machine.execSet5L s
  | .set5MemHl => Sys2Proof.Machine.execSet5MemHl s
  | .set5A => Sys2Proof.Machine.execSet5A s
  | .set6B => Sys2Proof.Machine.execSet6B s
  | .set6C => Sys2Proof.Machine.execSet6C s
  | .set6D => Sys2Proof.Machine.execSet6D s
  | .set6E => Sys2Proof.Machine.execSet6E s
  | .set6H => Sys2Proof.Machine.execSet6H s
  | .set6L => Sys2Proof.Machine.execSet6L s
  | .set6MemHl => Sys2Proof.Machine.execSet6MemHl s
  | .set6A => Sys2Proof.Machine.execSet6A s
  | .set7B => Sys2Proof.Machine.execSet7B s
  | .set7C => Sys2Proof.Machine.execSet7C s
  | .set7D => Sys2Proof.Machine.execSet7D s
  | .set7E => Sys2Proof.Machine.execSet7E s
  | .set7H => Sys2Proof.Machine.execSet7H s
  | .set7L => Sys2Proof.Machine.execSet7L s
  | .set7MemHl => Sys2Proof.Machine.execSet7MemHl s
  | .set7A => Sys2Proof.Machine.execSet7A s
  | .inBPortC => Sys2Proof.Machine.execInBPortC s
  | .outPortCB => Sys2Proof.Machine.execOutPortCB s
  | .sbcHlBc => Sys2Proof.Machine.execSbcHlBc s
  | .ldMemNnBc nn => Sys2Proof.Machine.execLdMemNnBc nn s
  | .neg => Sys2Proof.Machine.execNeg s
  | .retn => Sys2Proof.Machine.execRetn s
  | .im0 => Sys2Proof.Machine.execIm0 s
  | .ldIA => Sys2Proof.Machine.execLdIA s
  | .inCPortC => Sys2Proof.Machine.execInCPortC s
  | .outPortCC => Sys2Proof.Machine.execOutPortCC s
  | .adcHlBc => Sys2Proof.Machine.execAdcHlBc s
  | .ldBcMemNn nn => Sys2Proof.Machine.execLdBcMemNn nn s
  | .reti => Sys2Proof.Machine.execReti s
  | .ldRA => Sys2Proof.Machine.execLdRA s
  | .inDPortC => Sys2Proof.Machine.execInDPortC s
  | .outPortCD => Sys2Proof.Machine.execOutPortCD s
  | .sbcHlDe => Sys2Proof.Machine.execSbcHlDe s
  | .ldMemNnDe nn => Sys2Proof.Machine.execLdMemNnDe nn s
  | .im1 => Sys2Proof.Machine.execIm1 s
  | .ldAI => Sys2Proof.Machine.execLdAI s
  | .inEPortC => Sys2Proof.Machine.execInEPortC s
  | .outPortCE => Sys2Proof.Machine.execOutPortCE s
  | .adcHlDe => Sys2Proof.Machine.execAdcHlDe s
  | .ldDeMemNn nn => Sys2Proof.Machine.execLdDeMemNn nn s
  | .im2 => Sys2Proof.Machine.execIm2 s
  | .ldAR => Sys2Proof.Machine.execLdAR s
  | .inHPortC => Sys2Proof.Machine.execInHPortC s
  | .outPortCH => Sys2Proof.Machine.execOutPortCH s
  | .sbcHlHl => Sys2Proof.Machine.execSbcHlHl s
  | .ldMemNnHlEd nn => Sys2Proof.Machine.execLdMemNnHlEd nn s
  | .rrd => Sys2Proof.Machine.execRrd s
  | .inLPortC => Sys2Proof.Machine.execInLPortC s
  | .outPortCL => Sys2Proof.Machine.execOutPortCL s
  | .adcHlHl => Sys2Proof.Machine.execAdcHlHl s
  | .ldHlMemNnEd nn => Sys2Proof.Machine.execLdHlMemNnEd nn s
  | .rld => Sys2Proof.Machine.execRld s
  | .sbcHlSp => Sys2Proof.Machine.execSbcHlSp s
  | .ldMemNnSp nn => Sys2Proof.Machine.execLdMemNnSp nn s
  | .inAPortC => Sys2Proof.Machine.execInAPortC s
  | .outPortCA => Sys2Proof.Machine.execOutPortCA s
  | .adcHlSp => Sys2Proof.Machine.execAdcHlSp s
  | .ldSpMemNn nn => Sys2Proof.Machine.execLdSpMemNn nn s
  | .ldi => Sys2Proof.Machine.execLdi s
  | .cpi => Sys2Proof.Machine.execCpi s
  | .ini => Sys2Proof.Machine.execIni s
  | .outi => Sys2Proof.Machine.execOuti s
  | .ldd => Sys2Proof.Machine.execLdd s
  | .cpd => Sys2Proof.Machine.execCpd s
  | .ind => Sys2Proof.Machine.execInd s
  | .outd => Sys2Proof.Machine.execOutd s
  | .ldir => Sys2Proof.Machine.execLdir s
  | .cpir => Sys2Proof.Machine.execCpir s
  | .inir => Sys2Proof.Machine.execInir s
  | .otir => Sys2Proof.Machine.execOtir s
  | .lddr => Sys2Proof.Machine.execLddr s
  | .cpdr => Sys2Proof.Machine.execCpdr s
  | .indr => Sys2Proof.Machine.execIndr s
  | .otdr => Sys2Proof.Machine.execOtdr s
  | .patch => Sys2Proof.Machine.execPatch s
  | .addIxBc => Sys2Proof.Machine.execAddIxBc s
  | .addIxDe => Sys2Proof.Machine.execAddIxDe s
  | .ldIxNn nn => Sys2Proof.Machine.execLdIxNn nn s
  | .ldMemNnIx nn => Sys2Proof.Machine.execLdMemNnIx nn s
  | .incIx => Sys2Proof.Machine.execIncIx s
  | .addIxIx => Sys2Proof.Machine.execAddIxIx s
  | .ldIxMemNn nn => Sys2Proof.Machine.execLdIxMemNn nn s
  | .decIx => Sys2Proof.Machine.execDecIx s
  | .incMemIxd d => Sys2Proof.Machine.execIncMemIxd d s
  | .decMemIxd d => Sys2Proof.Machine.execDecMemIxd d s
  | .ldMemIxdN d n => Sys2Proof.Machine.execLdMemIxdN d n s
  | .addIxSp => Sys2Proof.Machine.execAddIxSp s
  | .ldBMemIxd d => Sys2Proof.Machine.execLdBMemIxd d s
  | .ldCMemIxd d => Sys2Proof.Machine.execLdCMemIxd d s
  | .ldDMemIxd d => Sys2Proof.Machine.execLdDMemIxd d s
  | .ldEMemIxd d => Sys2Proof.Machine.execLdEMemIxd d s
  | .ldHMemIxd d => Sys2Proof.Machine.execLdHMemIxd d s
  | .ldLMemIxd d => Sys2Proof.Machine.execLdLMemIxd d s
  | .ldMemIxdB d => Sys2Proof.Machine.execLdMemIxdB d s
  | .ldMemIxdC d => Sys2Proof.Machine.execLdMemIxdC d s
  | .ldMemIxdD d => Sys2Proof.Machine.execLdMemIxdD d s
  | .ldMemIxdE d => Sys2Proof.Machine.execLdMemIxdE d s
  | .ldMemIxdH d => Sys2Proof.Machine.execLdMemIxdH d s
  | .ldMemIxdL d => Sys2Proof.Machine.execLdMemIxdL d s
  | .ldMemIxdA d => Sys2Proof.Machine.execLdMemIxdA d s
  | .ldAMemIxd d => Sys2Proof.Machine.execLdAMemIxd d s
  | .addAMemIxd d => Sys2Proof.Machine.execAddAMemIxd d s
  | .adcAMemIxd d => Sys2Proof.Machine.execAdcAMemIxd d s
  | .subMemIxd d => Sys2Proof.Machine.execSubMemIxd d s
  | .sbcAMemIxd d => Sys2Proof.Machine.execSbcAMemIxd d s
  | .andMemIxd d => Sys2Proof.Machine.execAndMemIxd d s
  | .xorMemIxd d => Sys2Proof.Machine.execXorMemIxd d s
  | .orMemIxd d => Sys2Proof.Machine.execOrMemIxd d s
  | .cpMemIxd d => Sys2Proof.Machine.execCpMemIxd d s
  | .popIx => Sys2Proof.Machine.execPopIx s
  | .exMemSpIx => Sys2Proof.Machine.execExMemSpIx s
  | .pushIx => Sys2Proof.Machine.execPushIx s
  | .jpIx => Sys2Proof.Machine.execJpIx s
  | .ldSpIx => Sys2Proof.Machine.execLdSpIx s
  | .addIyBc => Sys2Proof.Machine.execAddIyBc s
  | .addIyDe => Sys2Proof.Machine.execAddIyDe s
  | .ldIyNn nn => Sys2Proof.Machine.execLdIyNn nn s
  | .ldMemNnIy nn => Sys2Proof.Machine.execLdMemNnIy nn s
  | .incIy => Sys2Proof.Machine.execIncIy s
  | .addIyIy => Sys2Proof.Machine.execAddIyIy s
  | .ldIyMemNn nn => Sys2Proof.Machine.execLdIyMemNn nn s
  | .decIy => Sys2Proof.Machine.execDecIy s
  | .incMemIyd d => Sys2Proof.Machine.execIncMemIyd d s
  | .decMemIyd d => Sys2Proof.Machine.execDecMemIyd d s
  | .ldMemIydN d n => Sys2Proof.Machine.execLdMemIydN d n s
  | .addIySp => Sys2Proof.Machine.execAddIySp s
  | .ldBMemIyd d => Sys2Proof.Machine.execLdBMemIyd d s
  | .ldCMemIyd d => Sys2Proof.Machine.execLdCMemIyd d s
  | .ldDMemIyd d => Sys2Proof.Machine.execLdDMemIyd d s
  | .ldEMemIyd d => Sys2Proof.Machine.execLdEMemIyd d s
  | .ldHMemIyd d => Sys2Proof.Machine.execLdHMemIyd d s
  | .ldLMemIyd d => Sys2Proof.Machine.execLdLMemIyd d s
  | .ldMemIydB d => Sys2Proof.Machine.execLdMemIydB d s
  | .ldMemIydC d => Sys2Proof.Machine.execLdMemIydC d s
  | .ldMemIydD d => Sys2Proof.Machine.execLdMemIydD d s
  | .ldMemIydE d => Sys2Proof.Machine.execLdMemIydE d s
  | .ldMemIydH d => Sys2Proof.Machine.execLdMemIydH d s
  | .ldMemIydL d => Sys2Proof.Machine.execLdMemIydL d s
  | .ldMemIydA d => Sys2Proof.Machine.execLdMemIydA d s
  | .ldAMemIyd d => Sys2Proof.Machine.execLdAMemIyd d s
  | .addAMemIyd d => Sys2Proof.Machine.execAddAMemIyd d s
  | .adcAMemIyd d => Sys2Proof.Machine.execAdcAMemIyd d s
  | .subMemIyd d => Sys2Proof.Machine.execSubMemIyd d s
  | .sbcAMemIyd d => Sys2Proof.Machine.execSbcAMemIyd d s
  | .andMemIyd d => Sys2Proof.Machine.execAndMemIyd d s
  | .xorMemIyd d => Sys2Proof.Machine.execXorMemIyd d s
  | .orMemIyd d => Sys2Proof.Machine.execOrMemIyd d s
  | .cpMemIyd d => Sys2Proof.Machine.execCpMemIyd d s
  | .popIy => Sys2Proof.Machine.execPopIy s
  | .exMemSpIy => Sys2Proof.Machine.execExMemSpIy s
  | .pushIy => Sys2Proof.Machine.execPushIy s
  | .jpIy => Sys2Proof.Machine.execJpIy s
  | .ldSpIy => Sys2Proof.Machine.execLdSpIy s
  | .rlcMemIxd d => Sys2Proof.Machine.execRlcMemIxd d s
  | .rrcMemIxd d => Sys2Proof.Machine.execRrcMemIxd d s
  | .rlMemIxd d => Sys2Proof.Machine.execRlMemIxd d s
  | .rrMemIxd d => Sys2Proof.Machine.execRrMemIxd d s
  | .slaMemIxd d => Sys2Proof.Machine.execSlaMemIxd d s
  | .sraMemIxd d => Sys2Proof.Machine.execSraMemIxd d s
  | .srlMemIxd d => Sys2Proof.Machine.execSrlMemIxd d s
  | .bit0MemIxd d => Sys2Proof.Machine.execBit0MemIxd d s
  | .bit1MemIxd d => Sys2Proof.Machine.execBit1MemIxd d s
  | .bit2MemIxd d => Sys2Proof.Machine.execBit2MemIxd d s
  | .bit3MemIxd d => Sys2Proof.Machine.execBit3MemIxd d s
  | .bit4MemIxd d => Sys2Proof.Machine.execBit4MemIxd d s
  | .bit5MemIxd d => Sys2Proof.Machine.execBit5MemIxd d s
  | .bit6MemIxd d => Sys2Proof.Machine.execBit6MemIxd d s
  | .bit7MemIxd d => Sys2Proof.Machine.execBit7MemIxd d s
  | .res0MemIxd d => Sys2Proof.Machine.execRes0MemIxd d s
  | .res1MemIxd d => Sys2Proof.Machine.execRes1MemIxd d s
  | .res2MemIxd d => Sys2Proof.Machine.execRes2MemIxd d s
  | .res3MemIxd d => Sys2Proof.Machine.execRes3MemIxd d s
  | .res4MemIxd d => Sys2Proof.Machine.execRes4MemIxd d s
  | .res5MemIxd d => Sys2Proof.Machine.execRes5MemIxd d s
  | .res6MemIxd d => Sys2Proof.Machine.execRes6MemIxd d s
  | .res7MemIxd d => Sys2Proof.Machine.execRes7MemIxd d s
  | .set0MemIxd d => Sys2Proof.Machine.execSet0MemIxd d s
  | .set1MemIxd d => Sys2Proof.Machine.execSet1MemIxd d s
  | .set2MemIxd d => Sys2Proof.Machine.execSet2MemIxd d s
  | .set3MemIxd d => Sys2Proof.Machine.execSet3MemIxd d s
  | .set4MemIxd d => Sys2Proof.Machine.execSet4MemIxd d s
  | .set5MemIxd d => Sys2Proof.Machine.execSet5MemIxd d s
  | .set6MemIxd d => Sys2Proof.Machine.execSet6MemIxd d s
  | .set7MemIxd d => Sys2Proof.Machine.execSet7MemIxd d s
  | .rlcMemIyd d => Sys2Proof.Machine.execRlcMemIyd d s
  | .rrcMemIyd d => Sys2Proof.Machine.execRrcMemIyd d s
  | .rlMemIyd d => Sys2Proof.Machine.execRlMemIyd d s
  | .rrMemIyd d => Sys2Proof.Machine.execRrMemIyd d s
  | .slaMemIyd d => Sys2Proof.Machine.execSlaMemIyd d s
  | .sraMemIyd d => Sys2Proof.Machine.execSraMemIyd d s
  | .srlMemIyd d => Sys2Proof.Machine.execSrlMemIyd d s
  | .bit0MemIyd d => Sys2Proof.Machine.execBit0MemIyd d s
  | .bit1MemIyd d => Sys2Proof.Machine.execBit1MemIyd d s
  | .bit2MemIyd d => Sys2Proof.Machine.execBit2MemIyd d s
  | .bit3MemIyd d => Sys2Proof.Machine.execBit3MemIyd d s
  | .bit4MemIyd d => Sys2Proof.Machine.execBit4MemIyd d s
  | .bit5MemIyd d => Sys2Proof.Machine.execBit5MemIyd d s
  | .bit6MemIyd d => Sys2Proof.Machine.execBit6MemIyd d s
  | .bit7MemIyd d => Sys2Proof.Machine.execBit7MemIyd d s
  | .res0MemIyd d => Sys2Proof.Machine.execRes0MemIyd d s
  | .res1MemIyd d => Sys2Proof.Machine.execRes1MemIyd d s
  | .res2MemIyd d => Sys2Proof.Machine.execRes2MemIyd d s
  | .res3MemIyd d => Sys2Proof.Machine.execRes3MemIyd d s
  | .res4MemIyd d => Sys2Proof.Machine.execRes4MemIyd d s
  | .res5MemIyd d => Sys2Proof.Machine.execRes5MemIyd d s
  | .res6MemIyd d => Sys2Proof.Machine.execRes6MemIyd d s
  | .res7MemIyd d => Sys2Proof.Machine.execRes7MemIyd d s
  | .set0MemIyd d => Sys2Proof.Machine.execSet0MemIyd d s
  | .set1MemIyd d => Sys2Proof.Machine.execSet1MemIyd d s
  | .set2MemIyd d => Sys2Proof.Machine.execSet2MemIyd d s
  | .set3MemIyd d => Sys2Proof.Machine.execSet3MemIyd d s
  | .set4MemIyd d => Sys2Proof.Machine.execSet4MemIyd d s
  | .set5MemIyd d => Sys2Proof.Machine.execSet5MemIyd d s
  | .set6MemIyd d => Sys2Proof.Machine.execSet6MemIyd d s
  | .set7MemIyd d => Sys2Proof.Machine.execSet7MemIyd d s

end Sys2Proof.Machine
end

