-- ==== Sys2Proof/Machine/Boundary.lean ====
section
/-! DEFINITION. The step's phases (R502): acceptance, the idle step, fetch, decode and execution; and placing an instruction
where the next step fetches it. -/

namespace Sys2Proof.Machine

/-- The four bytes at PC, through the read table, addresses modulo 2^16 (R151). Reads have no side effect, so reading the
most an instruction can take is reading as many as it takes. -/
def State.fetch (s : State) : List Byte :=
  [s.readByte s.cpu.pc, s.readByte (s.cpu.pc + 1), s.readByte (s.cpu.pc + 2), s.readByte (s.cpu.pc + 3)]

/-- What an undocumented encoding does (R519). -/
def State.undocumented (s : State) (bytes : List Byte) : Outcome :=
  match s.cfg.opcodePolicy with
  | .permissive => .refused (.undocumentedEncoding s.cpu.pc bytes)
  | .strict =>
    if (s.hostReply (.opcodeWarning s.cpu)).abort then .fault (.illegalOpcode s.cpu.pc bytes s)
    else .refused (.undocumentedEncoding s.cpu.pc bytes)

/-- Fetch, decode and execute the instruction at PC (R151, R164). -/
def State.executeInstruction (s : State) : Outcome :=
  match decode s.fetch with
  | .ok (i, _) => exec i s
  | .error (.undocumented bytes) => s.undocumented bytes
  | .error .truncated => s.undocumented s.fetch

/-- Phase 3: the idle step of a halted CPU, or the instruction at PC (R502, R510). -/
def State.phase3 (s : State) : Outcome := if s.cpu.halted then .next s.idle else s.executeInstruction

/-- The fault with `before` as the state its record holds. -/
def Fault.since (before : State) (r : Fault) : Fault :=
  match r with
  | .illegalOpcode pc0 bytes _ => .illegalOpcode pc0 bytes before
  | .badPort pc0 dir port value _ => .badPort pc0 dir port value before
  | .ackDeclined pc i _ => .ackDeclined pc i before

/-- The outcome with the record of its fault, if it is one, from the state before the step: a fault is precise, also where a
declined acknowledge came first (R501, R509). -/
def preciseFrom (before : State) (o : Outcome) : Outcome :=
  match o with
  | .next t => .next t
  | .fault r => .fault (r.since before)
  | .refused q => .refused q

/-- The phases of a step in order (R502, R529). -/
def State.boundary (s : State) : Outcome :=
  if s.nmiPending then .next s.acceptNmi
  else if s.maskableReady then
    match s.acceptMaskable with
    | .taken t => .next t
    | .declined t => preciseFrom s t.phase3
    | .failed r => .fault r
  else s.phase3

/-- IElapsed is a 64-bit count: a step that would bring it to 2^64 is refused (R49, 93_implementation_defined.md). -/
def guardElapsed (o : Outcome) : Outcome :=
  match o with
  | .next t => if t.iElapsed < 2 ^ 64 then .next t else .refused .elapsedOverflow
  | .fault r => .fault r
  | .refused r => .refused r

/-- Whether a fetch from `a` reads a cell of memory, not unmapped space. -/
def State.backed (s : State) (a : Word) : Bool := s.readTable (entryOf a) != .high

/-- The state with `v` in the cell that a fetch from `a` reads. -/
def State.placeByte (s : State) (a : Word) (v : Byte) : State := s.writeTarget (s.readTable (entryOf a)) (offsetOf a) v

/-- The state with `bytes` in the cells that a fetch from `a` on reads. -/
def State.placeBytes (s : State) (a : Word) (bytes : List Byte) : State :=
  match bytes with
  | [] => s
  | b :: t => (s.placeByte a b).placeBytes (a + 1) t

/-- The state with nothing in the way of the instruction at PC: not halted, no NMI pending, and no maskable request that
this boundary would accept. -/
def State.readyToFetch (s : State) : State :=
  { s with
    cpu := { s.cpu with halted := false }
    nmiPending := false
    intPending := s.intPending && !s.maskableReady }

/-- The state with PC at memory that can hold an instruction: as it is, or, where the four bytes at PC run through unmapped
space, at 0x0000 with the monitor ROM there. -/
def State.fetchable (s : State) : State :=
  if s.backed s.cpu.pc && s.backed (s.cpu.pc + 1) && s.backed (s.cpu.pc + 2) && s.backed (s.cpu.pc + 3) then s
  else (s.setIoByte 0x00).setPc 0x0000

/-- The state with `bytes` stored where the next step fetches its instruction. -/
def State.withInstructionBytes (s : State) (bytes : List Byte) : State :=
  let t := s.readyToFetch.fetchable
  t.placeBytes t.cpu.pc bytes

end Sys2Proof.Machine
end

