-- ==== Sys2Proof/Machine/Step.lean ====
section
/-! DEFINITION. One step, `executeOne` of R502 and R528, and the placing of one instruction word for it. -/

namespace Sys2Proof.Machine

/-- One step (R502): one acceptance, one idle step or one instruction, with its accounting. -/
def step (s : State) : Host.Outcome State Fault Refusal := guardElapsed s.boundary

/-- `s` with the instruction whose bits are `w`, numbered as spec/opcode_table.json numbers them, stored where `step` fetches
its next instruction (log 12, log 13). -/
def State.withFetchWord (s : State) (nbits w : Nat) : State := s.withInstructionBytes (tableBytes nbits w)

end Sys2Proof.Machine
end

