-- ==== Sys2Proof/Machine/HostOps.lean ====
section
/-! DEFINITION. What the host may do between steps (R540), as operations on a state: `configure`, `reset`, the raises, the
register setters it may call, the write of IPeriod, and its views of the interrupt state. `step` makes none of these by
itself (log 7). -/

namespace Sys2Proof.Machine

/-- `raiseMaskableInterrupt()` (R516). -/
def State.raiseMaskableInterrupt (s : State) : State := { s with intPending := true }

/-- `raiseNonMaskableInterrupt()` (R516). -/
def State.raiseNonMaskableInterrupt (s : State) : State := { s with nmiPending := true }

/-- Draw number `k` after the next one, as a byte. -/
def State.drawAt (s : State) (k : Nat) : Byte := Config.draw (s.draws + k)

/-- A bank of draws, `A`, `F`, `B` to `L`, from draw `k` on. -/
def State.drawnBank (s : State) (k : Nat) : Bank where
  a := s.drawAt k
  f := Flags.ofByte (s.drawAt (k + 1))
  b := s.drawAt (k + 2)
  c := s.drawAt (k + 3)
  d := s.drawAt (k + 4)
  e := s.drawAt (k + 5)
  h := s.drawAt (k + 6)
  l := s.drawAt (k + 7)

/-- `reset(registers)` (R600) on any state: PC, SP, the interrupt state, I, R7 and the counters as stated, and a draw for
every register the rule leaves open. The memory map, memory and IPeriod stay (R601). -/
def State.cpuReset (s : State) : State :=
  { s with
    cpu :=
      { main := s.drawnBank 0
        shadow := s.drawnBank 8
        ix := joinBytes (s.drawAt 16) (s.drawAt 17)
        iy := joinBytes (s.drawAt 18) (s.drawAt 19)
        sp := 0xFFFF
        pc := 0x0000
        i := 0x00
        r7 := false
        iff1 := false
        iff2 := false
        im := .im0
        eiDelay := false
        halted := false
        inService := false }
    intPending := false
    nmiPending := false
    iCount := s.iPeriod
    iBackup := s.iPeriod
    iElapsed := 0
    draws := s.draws + 20 }

/-- The machine `configure` makes, before its first reset (R101): the memory-map registers at their configured values and the
host's images installed. The register file before that reset is `Cpu.reset`. `ram` is what the RAM happens to hold (R102). -/
def configured (c : Config) (period : Int) (monitor slots ram : Memory) : State where
  cpu := Cpu.reset
  intPending := false
  nmiPending := false
  iCount := period
  iPeriod := period
  iBackup := period
  iElapsed := 0
  ioByte := 0x00
  subPage := 0x00
  romEnableMask := 0xFF
  ram := ram
  monitorRom := monitor
  rom := slots
  cfg := c
  draws := 0
  hostReplies := []
  hostLog := []

/-- Whether a cell of the slot ROMs is a byte of an installed sub-page of a slot in 0..7 (R53). A slot takes 256 sub-pages of
0x2000 cells. -/
def romCellOk (c : Config) (k : Nat) : Bool :=
  decide (k / 0x200000 < 8) && decide (k / 0x2000 % 256 < c.nSub.getD (k / 0x200000) 0)

/-- Whether every byte of the images has its place in the machine: the monitor ROM is 8192 bytes, a slot image names a slot in
0..7 and an installed sub-page of it, and RAM is `N` blocks of 16384 bytes (R7, R52, R53, R101). -/
def imagesFit (c : Config) (monitor slots ram : Memory) : Bool :=
  monitor.all (fun b => decide (b.1 < 0x2000)) && slots.all (fun b => romCellOk c b.1) &&
    ram.all (fun b => decide (b.1 < c.ramBlockCount * 0x4000))

/-- `configure` (R101): no machine exists for a bad configuration (R7), a period out of range (R48), an image that names a slot
outside 0..7 or has a byte with no place in the machine (R7, log 15), or an image that is not in canonical form. -/
def configure (c : Config) (period : Int) (monitor slots ram : Memory) : Option State :=
  if c.valid = true ∧ periodOk period = true ∧ imagesFit c monitor slots ram = true ∧ monitor.wf ∧ slots.wf ∧ ram.wf then
    some (configured c period monitor slots ram)
  else none

/-- The host's write of IPeriod (R541): `ICount` and `IBackup` are not changed, and a value out of range is refused. -/
def State.setIPeriod (s : State) (p : Int) : Outcome :=
  if periodOk p then .next { s with iPeriod := p } else .refused (.periodOutOfRange p)

/-- `getIoByte()` (R99). -/
def State.getIoByte (s : State) : Byte := s.ioByte

/-- `getRomEnableMask()` (R98). -/
def State.getRomEnableMask (s : State) : Byte := s.romEnableMask

/-- The step-count accessor (R49, R522). -/
def State.stepCount (s : State) : Nat := s.iElapsed

/-- The host's packed view of the interrupt flip-flops (R44): bit 0 IFF1, bit 1 mode 1, bit 2 mode 2, bit 3 IFF2, bit 5
eiDelay, bit 7 halted. -/
def State.iffByte (s : State) : Byte :=
  BitVec.ofBool s.cpu.halted ++ BitVec.ofBool false ++ BitVec.ofBool s.cpu.eiDelay ++ BitVec.ofBool false ++
    BitVec.ofBool s.cpu.iff2 ++ BitVec.ofBool (s.cpu.im == .im2) ++ BitVec.ofBool (s.cpu.im == .im1) ++
    BitVec.ofBool s.cpu.iff1

/-- The host's view `IRequest` of the latches (R46). -/
def State.iRequest (s : State) : Word := if s.nmiPending then 0x0066 else if s.intPending then 0x0038 else 0xFFFF

/-- The interrupt states of MEMU (R47, R520). -/
inductive InterruptState where
  | idle
  | maskablePending
  | nonMaskablePending
  | inService
deriving DecidableEq, Repr

/-- The interrupt state as a projection of the latches and `inService` (R47). -/
def State.interruptState (s : State) : InterruptState :=
  if s.nmiPending then .nonMaskablePending
  else if s.intPending then .maskablePending
  else if s.cpu.inService then .inService
  else .idle

end Sys2Proof.Machine
end

