-- ==== Sys2Proof/Machine/RunLoop.lean ====
section
/-! DEFINITION. The run loop (R513 to R515): steps with the periodic check after each. `step` alone is `executeOne` (R528). -/

namespace Sys2Proof.Machine

/-- What one pass of the loop comes to. -/
inductive RunResult where
  /-- The loop goes on. -/
  | running (s : State)
  /-- `periodicCheck` answered quit: `run` returns PC, and the state can be resumed (R515). -/
  | quit (pc : Word) (s : State)
  | fault (r : Fault)
  | refused (r : Refusal)
deriving Repr

/-- The effect of the 16-bit result of `periodicCheck` (R514). -/
def State.handleResult (s : State) (result : Word) : RunResult :=
  if result = 0xFFFF then .running s
  else if result = 0xFFFE then .quit s.cpu.pc s
  else if result = 0x0066 then .running s.raiseNonMaskableInterrupt
  else .running s.raiseMaskableInterrupt

/-- The cycles since the last reload (R513). -/
def State.sinceReload (s : State) : Int := s.iBackup - s.iCount

/-- The reload: the overshoot carries over (R513). -/
def State.reload (s : State) : State := { s with iCount := s.iCount + s.iPeriod, iBackup := s.iCount + s.iPeriod }

/-- The periodic callback (R513): tell the host the elapsed cycles, let it write IPeriod (R541), reload, and handle the
result. -/
def State.periodic (s : State) : RunResult :=
  let ev := HostEvent.periodicCheck s.sinceReload s.cpu
  let r := s.hostReply ev
  let t := s.afterCall ev
  match r.newPeriod with
  | none => t.reload.handleResult r.result
  | some p =>
    match t.setIPeriod p with
    | .next u => u.reload.handleResult r.result
    | .fault f => .fault f
    | .refused q => .refused q

/-- One pass of `run`: a step, and the periodic callback when ICount is used up (R513). -/
def runStep (s : State) : RunResult :=
  match step s with
  | .next t => if t.iCount ≤ 0 then t.periodic else .running t
  | .fault r => .fault r
  | .refused r => .refused r

/-- At most `k` passes of `run`; still running after them means unfinished, not final (R515). -/
def runFor : Nat → State → RunResult
  | 0, s => .running s
  | k + 1, s =>
    match runStep s with
    | .running t => runFor k t
    | .quit pc t => .quit pc t
    | .fault r => .fault r
    | .refused r => .refused r

end Sys2Proof.Machine
end

