-- ==== Sys2Proof/Safety.lean ====
section
/-! DEFINITION. What counts as a safe state and a safe step, and the vocabulary of the claims: what a step leaves unchanged,
what it stores, the flags a rule gives, and the operand forms with their encodings, each said from the spec and apart from
the meanings. -/

namespace Sys2Proof.Machine

/-! ### Safe states and steps -/

/-- The memories are in canonical form. -/
abbrev State.memoryWf (s : State) : Prop := s.ram.wf ∧ s.monitorRom.wf ∧ s.rom.wf

/-- The invariant of a machine that `configure` made: canonical memories, a valid configuration, IPeriod in its range and
IElapsed a 64-bit count. -/
abbrev State.wellFormed (s : State) : Prop :=
  s.memoryWf ∧ s.cfg.valid = true ∧ periodOk s.iPeriod = true ∧ s.iElapsed < 2 ^ 64

/-- Every byte listed has its place in the machine: the monitor ROM is 8192 bytes (R53), a byte of a slot ROM lies in an
installed sub-page of a slot in 0..7 (R53), and RAM is `N` blocks of 16384 bytes (R52). -/
def MemoryInside (c : Config) (monitor slots ram : Memory) : Prop :=
  (∀ b ∈ monitor, b.1 < 0x2000) ∧
  (∀ b ∈ slots, ∃ slot page o, slot < 8 ∧ page < c.nSub.getD slot 0 ∧ o < 0x2000 ∧ b.1 = romIndex slot page o) ∧
  (∀ b ∈ ram, b.1 < c.ramBlockCount * 0x4000)

/-- `MemoryInside` of a state. -/
abbrev State.memoryInside (s : State) : Prop := MemoryInside s.cfg s.monitorRom s.rom s.ram

/-- The bound on ICount at a boundary under `run` (R48). -/
abbrev State.countInRange (s : State) : Prop := 1 ≤ s.iCount ∧ s.iCount ≤ 2 ^ 30

/-- A step that neither faults nor refuses. -/
def StepsSafely (s : State) : Prop := ∃ t, step s = .next t

/-- `t` is reached from `s` by steps alone. -/
inductive Reaches : State → State → Prop where
  | refl (s : State) : Reaches s s
  | tail (s t u : State) : Reaches s t → step t = .next u → Reaches s u

/-- Nothing is accepted at this boundary: no NMI is pending, and no maskable request is pending, enabled and undeferred
(R504, R505). -/
abbrev State.undisturbed (s : State) : Prop :=
  s.nmiPending = false ∧ ¬(s.intPending = true ∧ s.cpu.iff1 = true ∧ s.cpu.eiDelay = false)

/-- A maskable request is accepted at this boundary (R505). -/
abbrev State.acceptsMaskable (s : State) : Prop :=
  s.nmiPending = false ∧ s.intPending = true ∧ s.cpu.iff1 = true ∧ s.cpu.eiDelay = false

/-- A mode 2 acceptance at this boundary that the host declines (R509). -/
abbrev State.acknowledgeDeclined (s : State) : Prop :=
  s.acceptsMaskable ∧ s.cpu.im = .im2 ∧ (s.hostReply (.acknowledge s.cpu)).accept = false

/-- The cycles a host was told in its periodic callbacks. -/
def elapsedTold : List HostEvent → Int
  | [] => 0
  | .periodicCheck e _ :: l => e + elapsedTold l
  | _ :: l => elapsedTold l

/-! ### What a step changes and what it leaves -/

/-- `t` has the counters of `s` after a step of `cost` cycles (R512). -/
abbrev State.charged (s t : State) (cost : Nat) : Prop :=
  t.iCount = s.iCount - cost ∧ t.iElapsed = s.iElapsed + cost ∧ t.iPeriod = s.iPeriod ∧ t.iBackup = s.iBackup

/-- No request was latched or dropped, and the host was not called. -/
abbrev State.quiet (s t : State) : Prop :=
  t.intPending = s.intPending ∧ t.nmiPending = s.nmiPending ∧ t.hostReplies = s.hostReplies ∧ t.hostLog = s.hostLog

/-- The host was called once, with `ev`, and the requests it raised in the call were latched (R517). -/
abbrev State.called (s t : State) (ev : HostEvent) : Prop :=
  t.intPending = (s.intPending || (s.hostReply ev).raiseInt) ∧
  t.nmiPending = (s.nmiPending || (s.hostReply ev).raiseNmi) ∧
  t.hostReplies = s.hostReplies.tail ∧ t.hostLog = ev :: s.hostLog

/-- No request was latched or dropped, and one diagnostic was emitted. -/
abbrev State.reported (s t : State) (ev : HostEvent) : Prop :=
  t.intPending = s.intPending ∧ t.nmiPending = s.nmiPending ∧ t.hostReplies = s.hostReplies ∧ t.hostLog = ev :: s.hostLog

/-- The port access of an input instruction of `len` bytes from `s` to `t`, which gave `v` (R110, R114): the host's answer at a
mapped port, and the dummy value with a diagnostic at another one. -/
def State.readsPort (s t : State) (len : Nat) (port : Word) (v : Byte) : Prop :=
  if lowByte port ∈ s.cfg.portMapIn then
    v = (s.hostReply (.hostIn port { s.cpu with pc := s.cpu.pc + BitVec.ofNat 16 len })).value ∧
      s.called t (.hostIn port { s.cpu with pc := s.cpu.pc + BitVec.ofNat 16 len })
  else v = s.cfg.dummyInValue ∧ s.reported t (.badPort .input port none)

/-- `t` has the memory-map registers and the configuration of `u`. -/
abbrev State.sameMap (t u : State) : Prop :=
  t.ioByte = u.ioByte ∧ t.subPage = u.subPage ∧ t.romEnableMask = u.romEnableMask ∧ t.cfg = u.cfg

/-- `t` has the memories, the memory-map registers and the configuration of `u`. -/
abbrev State.sameMemory (t u : State) : Prop :=
  t.ram = u.ram ∧ t.monitorRom = u.monitorRom ∧ t.rom = u.rom ∧ t.sameMap u

/-- The port access of an output instruction from `s` to `t`, with what it leaves of the memory (R111, R114): at the banking
port the I/O-byte takes `v`, at a mapped port the host is called, and at another one a diagnostic is emitted. `regs` is what
the host sees. -/
def State.writesPort (s t : State) (regs : Cpu) (port : Word) (v : Byte) : Prop :=
  if lowByte port = s.cfg.ioBytePort then t.sameMemory { s with ioByte := v } ∧ s.quiet t
  else t.sameMemory s ∧ (∀ x, t.readByte x = s.readByte x) ∧
    if lowByte port ∈ s.cfg.portMapOut then s.called t (.hostOut port v regs)
    else s.reported t (.badPort .output port (some v))

/-- A CPU write at `a` can change what a read at `x` gives: both use one RAM cell (R82, R84), or the write goes to the
sub-page register and `x` lies where the slot it pages is shown (R84, R97). -/
def State.touches (s : State) (a x : Word) : Prop :=
  match s.writeTable (entryOf a) with
  | .ram b h => s.readTable (entryOf x) = .ram b h ∧ offsetOf x = offsetOf a
  | .subpage => entryOf x = 1 ∧ s.slot = 2
  | _ => False

/-- From `s` to `t` no memory and no map register changed: every address reads as before. -/
abbrev State.storesNothing (s t : State) : Prop := t.sameMemory s ∧ ∀ x, t.readByte x = s.readByte x

/-- From `s` to `t` one byte was stored, `v` at `a`, by the CPU's write path (R84). -/
abbrev State.storesByte (s t : State) (a : Word) (v : Byte) : Prop :=
  t.sameMemory (s.writeByte a v) ∧ ∀ x, ¬ s.touches a x → t.readByte x = s.readByte x

/-- From `s` to `t` two bytes were stored, `v` at `a` and then `w` at `b`. -/
abbrev State.storesTwo (s t : State) (a : Word) (v : Byte) (b : Word) (w : Byte) : Prop :=
  t.sameMemory ((s.writeByte a v).writeByte b w) ∧
  ∀ x, ¬ s.touches a x → ¬ s.touches b x → t.readByte x = s.readByte x

/-- The word `v` was pushed (R86): the high byte at SP - 1, then the low byte at SP - 2. -/
abbrev State.pushed (s t : State) (v : Word) : Prop :=
  s.storesTwo t (s.cpu.sp - 1) (highByte v) (s.cpu.sp - 2) (lowByte v)

/-- Of the CPU registers only the main bank, PC and `eiDelay` may have changed; PC moved over `len` bytes and `eiDelay` is
clear (R151, R511). -/
abbrev State.onlyMain (s t : State) (len : Nat) : Prop :=
  t.cpu = { s.cpu with main := t.cpu.main, pc := s.cpu.pc + BitVec.ofNat 16 len, eiDelay := false }

/-- A, B, C, D, E, H and L are unchanged. -/
abbrev State.sameRegs (s t : State) : Prop := ∀ q, t.reg8 q = s.reg8 q

/-- Of A, B, C, D, E, H and L only `r` changed, to `v`. -/
abbrev State.onlyReg (s t : State) (r : Reg8) (v : Byte) : Prop := t.reg8 r = v ∧ ∀ q, q ≠ r → t.reg8 q = s.reg8 q

/-- F is unchanged. -/
abbrev State.sameFlags (s t : State) : Prop := t.cpu.main.f = s.cpu.main.f

/-- The CPU after an instruction of `len` bytes that changes no register but PC. -/
abbrev Cpu.past (c : Cpu) (len : Nat) : Cpu := { c with pc := c.pc + BitVec.ofNat 16 len, eiDelay := false }

/-- The CPU after an instruction that changes no register but PC, which is `target`. -/
abbrev Cpu.jumped (c : Cpu) (target : Word) : Cpu := { c with pc := target, eiDelay := false }

/-! ### The flags, from the rules' formulas. Y and X are never named: they are draws (R39). -/

/-- `p` is the parity of `v` (R12): an even number of one bits. -/
abbrev IsParity (p : Bool) (v : Byte) : Prop := p = decide ((List.range 8).countP (fun i => v.getLsbD i) % 2 = 0)

/-- `res` and `f` are those of `add8(a, b, c)` (R291). -/
abbrev IsAdd8 (f : Flags) (res a b : Byte) (c : Bool) : Prop :=
  res = BitVec.ofNat 8 (a.toNat + b.toNat + c.toNat) ∧
  f.s = res.getLsbD 7 ∧ f.z = decide (res = 0) ∧
  f.h = decide (a.toNat % 16 + b.toNat % 16 + c.toNat > 15) ∧
  f.pv = (decide (a.getLsbD 7 = b.getLsbD 7) && decide (res.getLsbD 7 ≠ a.getLsbD 7)) ∧
  f.n = false ∧ f.c = decide (a.toNat + b.toNat + c.toNat > 255)

/-- `res` and `f` are those of `sub8(a, b, c)` (R291). -/
abbrev IsSub8 (f : Flags) (res a b : Byte) (c : Bool) : Prop :=
  res = BitVec.ofInt 8 ((a.toNat : Int) - b.toNat - c.toNat) ∧
  f.s = res.getLsbD 7 ∧ f.z = decide (res = 0) ∧
  f.h = decide (a.toNat % 16 < b.toNat % 16 + c.toNat) ∧
  f.pv = (decide (a.getLsbD 7 ≠ b.getLsbD 7) && decide (res.getLsbD 7 ≠ a.getLsbD 7)) ∧
  f.n = true ∧ f.c = decide (a.toNat < b.toNat + c.toNat)

/-- `f` has S, Z and PV from `res` with PV its parity, H as given and N = 0. -/
abbrev IsValueFlags (f : Flags) (res : Byte) (h : Bool) : Prop :=
  f.s = res.getLsbD 7 ∧ f.z = decide (res = 0) ∧ f.h = h ∧ IsParity f.pv res ∧ f.n = false

/-- S, Z and PV are unchanged. -/
abbrev Flags.keepsSzp (old f : Flags) : Prop := f.s = old.s ∧ f.z = old.z ∧ f.pv = old.pv

/-- The result of a rotate or shift of `v`, bit by bit, with `c` the carry before it (R375 to R381). -/
def rotatedBit (op : RotOp) (v : Byte) (c : Bool) (k : Nat) : Bool :=
  match op with
  | .rlc => if k = 0 then v.getLsbD 7 else v.getLsbD (k - 1)
  | .rl => if k = 0 then c else v.getLsbD (k - 1)
  | .sla => if k = 0 then false else v.getLsbD (k - 1)
  | .rrc => if k = 7 then v.getLsbD 0 else v.getLsbD (k + 1)
  | .rr => if k = 7 then c else v.getLsbD (k + 1)
  | .sra => if k = 7 then v.getLsbD 7 else v.getLsbD (k + 1)
  | .srl => if k = 7 then false else v.getLsbD (k + 1)

/-- The bit a rotate or shift moves out: bit 7 to the left, bit 0 to the right. -/
def rotatedOut (op : RotOp) (v : Byte) : Bool :=
  match op with
  | .rlc | .rl | .sla => v.getLsbD 7
  | .rrc | .rr | .sra | .srl => v.getLsbD 0

/-- Whether a condition holds (R155, R420). -/
def condHolds (f : Flags) (cc : Cond) : Prop :=
  match cc with
  | .nz => f.z = false
  | .z => f.z = true
  | .nc => f.c = false
  | .c => f.c = true
  | .po => f.pv = false
  | .pe => f.pv = true
  | .p => f.s = false
  | .m => f.s = true

/-! ### Operand forms and encodings -/

/-- An opcode byte of fields `x`, `y` and `z` (R152). -/
def opByte (x y z : Nat) : Byte := BitVec.ofNat 8 (64 * x + 8 * y + z)

/-- The code of an 8-bit register (R153). -/
def regCode : Reg8 → Nat
  | .b => 0
  | .c => 1
  | .d => 2
  | .e => 3
  | .h => 4
  | .l => 5
  | .a => 7

/-- The code of a pair of `rp` (R154). -/
def pairCode : Pair → Nat
  | .bc => 0
  | .de => 1
  | .hl => 2
  | .sp => 3

/-- The code of a pair of `rp2` (R154). -/
def pairQCode : PairQ → Nat
  | .bc => 0
  | .de => 1
  | .hl => 2
  | .af => 3

/-- The code of a condition (R155). -/
def condCode : Cond → Nat
  | .nz => 0
  | .z => 1
  | .nc => 2
  | .c => 3
  | .po => 4
  | .pe => 5
  | .p => 6
  | .m => 7

/-- The code of an 8-bit operation (R156). -/
def aluCode : AluOp → Nat
  | .add => 0
  | .adc => 1
  | .sub => 2
  | .sbc => 3
  | .and => 4
  | .xor => 5
  | .or => 6
  | .cp => 7

/-- The code of a rotate or shift (R156). -/
def rotCode : RotOp → Nat
  | .rlc => 0
  | .rrc => 1
  | .rl => 2
  | .rr => 3
  | .sla => 4
  | .sra => 5
  | .srl => 7

/-- The prefix of an index register (R158). -/
def indexCode : IndexReg → Byte
  | .ix => 0xDD
  | .iy => 0xFD

/-- A place an instruction reads and writes one byte at: a register, `(HL)`, `(IX+d)` or `(IY+d)` (R300, R374). -/
inductive Place where
  | reg (r : Reg8)
  | memHl
  | indexed (x : IndexReg) (d : Byte)
deriving DecidableEq, Repr

/-- The byte at a place. -/
def State.valueAt (s : State) (p : Place) : Byte :=
  match p with
  | .reg r => s.reg8 r
  | .memHl => s.readByte s.hl
  | .indexed x d => s.readByte (s.index x + d.signExtend 16)

/-- From `s` to `t`, of the registers A to L and the memory only the place `p` changed, to `v`. -/
def State.putsAt (s t : State) (p : Place) (v : Byte) : Prop :=
  match p with
  | .reg r => s.onlyReg t r v ∧ s.storesNothing t
  | .memHl => s.sameRegs t ∧ s.storesByte t s.hl v
  | .indexed x d => s.sameRegs t ∧ s.storesByte t (s.index x + d.signExtend 16) v

/-- The code of a place in a register field: 6 for memory (R153). -/
def Place.code : Place → Nat
  | .reg r => regCode r
  | .memHl => 6
  | .indexed _ _ => 6

/-- The bytes of a main-page instruction `op` on a place: as it is, or prefixed and with the displacement after it (R158). -/
def Place.mainBytes (p : Place) (op : Byte) : List Byte :=
  match p with
  | .reg _ => [op]
  | .memHl => [op]
  | .indexed x d => [indexCode x, op, d]

/-- The bytes of a CB-page instruction on a place (R159, R374). -/
def Place.cbBytes (p : Place) (op : Byte) : List Byte :=
  match p with
  | .reg _ => [0xCB, op]
  | .memHl => [0xCB, op]
  | .indexed x d => [indexCode x, 0xCB, d, op]

/-- The cycles of a main-page read-modify-write on a place (R300). -/
def Place.stepCycles : Place → Nat
  | .reg _ => 4
  | .memHl => 11
  | .indexed _ _ => 23

/-- The cycles of a rotate, shift, `SET` or `RES` on a place (R374). -/
def Place.cbCycles : Place → Nat
  | .reg _ => 8
  | .memHl => 15
  | .indexed _ _ => 23

/-- The cycles of a `BIT` on a place (R374). -/
def Place.bitCycles : Place → Nat
  | .reg _ => 8
  | .memHl => 12
  | .indexed _ _ => 20

/-- A source of an 8-bit operation on A (R290). -/
inductive AluSource where
  | place (p : Place)
  | imm (n : Byte)
deriving DecidableEq, Repr

/-- The source's value. -/
def State.sourceValue (s : State) (v : AluSource) : Byte :=
  match v with
  | .place p => s.valueAt p
  | .imm n => n

/-- The source's cycles (R290). -/
def AluSource.cycles : AluSource → Nat
  | .place (.reg _) => 4
  | .place .memHl => 7
  | .place (.indexed _ _) => 19
  | .imm _ => 7

/-- The bytes of operation `y` on a source (R290). -/
def AluSource.bytes (v : AluSource) (y : Nat) : List Byte :=
  match v with
  | .place p => p.mainBytes (opByte 2 y p.code)
  | .imm n => [opByte 3 y 6, n]

/-- The instruction of an 8-bit operation on a source. -/
def AluSource.instr (op : AluOp) : AluSource → Instr
  | .place (.reg r) => .aluReg op r
  | .place .memHl => .aluMemHl op
  | .place (.indexed x d) => .aluIndexed x op d
  | .imm n => .aluImm op n

/-- `INC` of a place. -/
def Place.inc : Place → Instr
  | .reg r => .incReg r
  | .memHl => .incMemHl
  | .indexed x d => .incIndexed x d

/-- `DEC` of a place. -/
def Place.dec : Place → Instr
  | .reg r => .decReg r
  | .memHl => .decMemHl
  | .indexed x d => .decIndexed x d

/-- A rotate or shift of a place. -/
def Place.rot (op : RotOp) : Place → Instr
  | .reg r => .rotReg op r
  | .memHl => .rotMemHl op
  | .indexed x d => .rotIndexed x op d

/-- `BIT` of a place. -/
def Place.bit (b : Fin 8) : Place → Instr
  | .reg r => .bitReg b r
  | .memHl => .bitMemHl b
  | .indexed x d => .bitIndexed x b d

/-- `SET` of a place. -/
def Place.set (b : Fin 8) : Place → Instr
  | .reg r => .setReg b r
  | .memHl => .setMemHl b
  | .indexed x d => .setIndexed x b d

/-- `RES` of a place. -/
def Place.res (b : Fin 8) : Place → Instr
  | .reg r => .resReg b r
  | .memHl => .resMemHl b
  | .indexed x d => .resIndexed x b d

end Sys2Proof.Machine
end

