-- ==== Sys2Proof/Certificates/Slice0/Obligations.lean ====
section
/-! DEFINITION. The statements for the provers. Y and X of a written F, the other draws, and the count of draws are never
named: they are free. `encode` says the bytes of each instruction from the fields of R152 to R156, so that each statement
gives its rule's encoding, effect, flags, cycles and frame. -/

open Sys2Proof Sys2Proof.Machine

/-! ### Encoding -/

/-- Decoding what `encode` gives is the instruction it was given, with every operand at every value, and takes exactly its
bytes (R150, R164). -/
def Obligations.DecodeEncode : Prop :=
  ∀ (i : Instr) (rest : List Byte), i.wellFormed = true → decode (encode i ++ rest) = .ok (i, rest)

/-- Every byte sequence that decodes is an encoding of the instruction decoded: no other bytes mean it (R162, R164). -/
def Obligations.DecodedBytesAreEncodings : Prop :=
  ∀ (bytes rest : List Byte) (i : Instr), decode bytes = .ok (i, rest) → bytes = encode i ++ rest

/-- Bytes written out from the encodings of single rules decode to the instructions they stand for. -/
def Obligations.SampleWords : Prop :=
  decode [0x3E, 0x42] = .ok (.ldAN 0x42, []) ∧
  decode [0x01, 0x34, 0x12] = .ok (.ldBcNn 0x1234, []) ∧
  decode [0xEB] = .ok (.exDeHl, []) ∧
  decode [0xDD, 0x86, 0x01] = .ok (.addAMemIxd 0x01, []) ∧
  decode [0xED, 0x5E] = .ok (.im2, []) ∧
  decode [0xED, 0x52] = .ok (.sbcHlDe, []) ∧
  decode [0xFD, 0xCB, 0xFF, 0x3E] = .ok (.srlMemIyd 0xFF, []) ∧
  decode [0xCB, 0x7E] = .ok (.bit7MemHl, []) ∧
  decode [0xDC, 0x00, 0x90] = .ok (.callCNn 0x9000, []) ∧
  decode [0xED, 0xB3] = .ok (.otir, []) ∧
  decode [0xED, 0xFE] = .ok (.patch, [])

/-- The undocumented encodings of R162 decode to no instruction: `CB 30` to `CB 37`, the mirrors and gaps of the ED page, the
DD and FD bytes that no grid holds, and the XYCB bytes with `z` other than 6 or `op` 36. -/
def Obligations.UndocumentedEncodings : Prop :=
  ∀ (op d : Byte) (x : IndexReg) (rest : List Byte),
    (0x30 ≤ op.toNat → op.toNat ≤ 0x37 →
      ∃ bytes, decode (0xCB :: op :: rest) = .error (.undocumented bytes)) ∧
    (op ∈ ([0x4C, 0x4E, 0x54, 0x55, 0x5C, 0x5D, 0x64, 0x65, 0x66, 0x6C, 0x6D, 0x6E, 0x70, 0x71, 0x74, 0x75, 0x76, 0x77,
        0x7C, 0x7D, 0x7E, 0x7F] : List Byte) ∨ op.toNat < 0x40 ∨ (0x80 ≤ op.toNat ∧ op.toNat < 0xA0) ∨
        (0xC0 ≤ op.toNat ∧ op ≠ 0xFE) ∨ (0xA0 ≤ op.toNat ∧ op.toNat < 0xC0 ∧ 4 ≤ op.toNat % 8) →
      ∃ bytes, decode (0xED :: op :: rest) = .error (.undocumented bytes)) ∧
    (op ∉ ([0x09, 0x19, 0x21, 0x22, 0x23, 0x29, 0x2A, 0x2B, 0x34, 0x35, 0x36, 0x39, 0xCB, 0xE1, 0xE3, 0xE5, 0xE9,
        0xF9] : List Byte) → ¬(op.toNat / 64 = 1 ∧ op.toNat % 8 = 6 ∧ op.toNat / 8 % 8 ≠ 6) →
        ¬(op.toNat / 8 = 0x0E ∧ op.toNat % 8 ≠ 6) → ¬(op.toNat / 64 = 2 ∧ op.toNat % 8 = 6) →
      ∃ bytes, decode (indexCode x :: op :: rest) = .error (.undocumented bytes)) ∧
    (op.toNat % 8 ≠ 6 ∨ op = 0x36 →
      ∃ bytes, decode (indexCode x :: 0xCB :: d :: op :: rest) = .error (.undocumented bytes))

/-! ### The step -/

/-- At a boundary where nothing is accepted and the CPU runs, the step is the execution of the instruction whose bytes stand
at PC, with the one check that IElapsed stays a 64-bit count (R151, R502; the check is log 10). -/
def Obligations.StepRunsDecoded : Prop :=
  ∀ (s : State) (i : Instr) (rest : List Byte), s.undisturbed → s.cpu.halted = false →
    i.wellFormed = true → s.fetch = encode i ++ rest →
      step s = guardElapsed (exec i s)

/-- What an undocumented encoding does: it refuses, and under the strict policy the host's answer abort makes it the fault,
whose record holds the address, the bytes and the state before the step. -/
def Obligations.UndocumentedStep : Prop :=
  ∀ (s : State) (bytes : List Byte), s.undisturbed → s.cpu.halted = false →
    decode s.fetch = .error (.undocumented bytes) →
      (s.cfg.opcodePolicy = .permissive → step s = .refused (.undocumentedEncoding s.cpu.pc bytes)) ∧
      (s.cfg.opcodePolicy = .strict → (s.hostReply (.opcodeWarning s.cpu)).abort = true →
        step s = .fault (.illegalOpcode s.cpu.pc bytes s)) ∧
      (s.cfg.opcodePolicy = .strict → (s.hostReply (.opcodeWarning s.cpu)).abort = false →
        step s = .refused (.undocumentedEncoding s.cpu.pc bytes))

/-- The halted CPU: its step fetches and executes nothing, charges 4 cycles and clears `eiDelay`; and it stays halted, at the same
PC and with the same registers, until a step accepts an interrupt. -/
def Obligations.HaltedSteps : Prop :=
  (∀ s : State, s.undisturbed → s.cpu.halted = true → s.iElapsed + 4 < 2 ^ 64 →
    ∃ t, step s = .next t ∧ t.cpu = { s.cpu with eiDelay := false } ∧ t.draws = s.draws ∧
      s.charged t 4 ∧ s.quiet t ∧ s.storesNothing t) ∧
  (∀ s t : State, s.cpu.halted = true → step s = .next t →
    t.cpu = { s.cpu with eiDelay := false } ∨
    (t.cpu.halted = false ∧ t.cpu.inService = true ∧ t.cpu.iff1 = false ∧ t.cpu.sp = s.cpu.sp - 2 ∧
      (s.nmiPending = true ∨ s.acceptsMaskable)))

/-- NMI acceptance, whatever IFF1, IFF2, `eiDelay`, IM and `halted` are, and whatever stands at PC. -/
def Obligations.NmiAcceptance : Prop :=
  ∀ s : State, s.nmiPending = true → s.iElapsed + 11 < 2 ^ 64 →
    ∃ t, step s = .next t ∧
      t.cpu = { s.cpu with
        iff2 := s.cpu.iff1, iff1 := false, halted := false, inService := true, eiDelay := false
        sp := s.cpu.sp - 2, pc := 0x0066 } ∧
      t.nmiPending = false ∧ t.intPending = s.intPending ∧ t.hostLog = s.hostLog ∧ t.hostReplies = s.hostReplies ∧
      s.charged t 11 ∧ s.pushed t s.cpu.pc

/-- Maskable acceptance. Modes 0 and 1: `RST 38H` in both. Mode 2: the host gives the vector, and PC is read at `I ++ v` and the
byte after it, once PC is pushed; a request raised in the call is absorbed by the clearing of `intPending` (log 17). -/
def Obligations.MaskableAcceptance : Prop :=
  (∀ s : State, s.acceptsMaskable → s.cpu.im ≠ .im2 → s.iElapsed + 13 < 2 ^ 64 →
    ∃ t, step s = .next t ∧
      t.cpu = { s.cpu with
        iff1 := false, iff2 := false, halted := false, inService := true, eiDelay := false
        sp := s.cpu.sp - 2, pc := 0x0038 } ∧
      t.intPending = false ∧ t.nmiPending = false ∧ t.hostLog = s.hostLog ∧ t.hostReplies = s.hostReplies ∧
      s.charged t 13 ∧ s.pushed t s.cpu.pc) ∧
  (∀ s : State, s.acceptsMaskable → s.cpu.im = .im2 → s.iElapsed + 19 < 2 ^ 64 →
    (s.hostReply (.acknowledge s.cpu)).accept = true →
      ∃ t, step s = .next t ∧
        t.cpu = { s.cpu with
          iff1 := false, iff2 := false, halted := false, inService := true, eiDelay := false
          sp := s.cpu.sp - 2
          pc := joinBytes (t.readByte (joinBytes s.cpu.i (s.hostReply (.acknowledge s.cpu)).value + 1))
            (t.readByte (joinBytes s.cpu.i (s.hostReply (.acknowledge s.cpu)).value)) } ∧
        t.intPending = false ∧ t.nmiPending = (s.hostReply (.acknowledge s.cpu)).raiseNmi ∧
        t.hostLog = .acknowledge s.cpu :: s.hostLog ∧ t.hostReplies = s.hostReplies.tail ∧
        s.charged t 19 ∧ s.pushed t s.cpu.pc)

/-- A declined acknowledge. Permissive: the request is dropped, a diagnostic is emitted, and the step goes on with the idle
step or the instruction at PC; a request raised for an NMI in the call waits for the next boundary, and one raised for a
maskable interrupt is dropped with the other (log 17). Strict: the fault, whose record holds the state before the step. -/
def Obligations.DeclinedAcknowledge : Prop :=
  ∀ s : State, s.acknowledgeDeclined →
    let u : State := { s with
      intPending := false
      nmiPending := (s.hostReply (.acknowledge s.cpu)).raiseNmi
      hostReplies := s.hostReplies.tail
      hostLog := .ackDeclined s.cpu.pc :: .acknowledge s.cpu :: s.hostLog }
    (s.cfg.ackPolicy = .permissive → s.cpu.halted = true →
      step s = guardElapsed (.next { u with iCount := u.iCount - 4, iElapsed := u.iElapsed + 4 })) ∧
    (s.cfg.ackPolicy = .permissive → s.cpu.halted = false →
      (∀ i rest, s.fetch = encode i ++ rest → step s = guardElapsed (preciseFrom s (exec i u))) ∧
      (∀ bytes, decode s.fetch = .error (.undocumented bytes) →
        (s.cfg.opcodePolicy = .strict → (u.hostReply (.opcodeWarning s.cpu)).abort = true →
          step s = .fault (.illegalOpcode s.cpu.pc bytes s)) ∧
        (s.cfg.opcodePolicy = .permissive ∨ (u.hostReply (.opcodeWarning s.cpu)).abort = false →
          step s = .refused (.undocumentedEncoding s.cpu.pc bytes)))) ∧
    (s.cfg.ackPolicy = .strict → step s = .fault (.ackDeclined s.cpu.pc s.cpu.i s))

/-- After any step `eiDelay` is set exactly when the step executed `EI`: it accepted nothing, the CPU was running, and the
bytes at PC are those of `EI`. A value of `eiDelay` that the host writes in `patch` does not outlast the step (log 18). -/
def Obligations.EiDelayOnlyAfterEi : Prop :=
  ∀ s t : State, step s = .next t →
    (t.cpu.eiDelay = true ↔
      (s.undisturbed ∨ s.acknowledgeDeclined) ∧ s.cpu.halted = false ∧ s.readByte s.cpu.pc = 0xFB)

/-- A request that is not accepted stays pending, and a latch is cleared only by acceptance or decline: after any step a
request that was pending still is, unless this boundary took it up. -/
def Obligations.RequestsStayPending : Prop :=
  ∀ s t : State, step s = .next t →
    (s.intPending = true → t.intPending = true ∨ s.acceptsMaskable) ∧
    (s.nmiPending = true → t.nmiPending = false ∧ t.cpu.pc = 0x0066)

/-- Every step charges one cost to both counters, at most 23 cycles on a machine that `configure` made, and moves no other
counter: the `IElapsed` delta is the sum of the costs. -/
def Obligations.EveryStepChargesBothCounters : Prop :=
  ∀ s t : State, s.cfg.valid = true → step s = .next t →
    ∃ cost : Nat, cost ≤ 23 ∧ s.charged t cost

/-- No CPU step changes ROM, the mask or the configuration: only a step that executes `PATCH` can change the ROMs and the mask,
through the host, and it keeps the configuration. A step that accepts an interrupt or idles executes nothing, whatever stands
at PC. -/
def Obligations.RomIsReadOnlyToTheCpu : Prop :=
  ∀ s t : State, step s = .next t →
    t.cfg = s.cfg ∧
    (¬ ((s.undisturbed ∨ s.acknowledgeDeclined) ∧ s.cpu.halted = false ∧ ∃ rest, s.fetch = encode .patch ++ rest) →
      t.monitorRom = s.monitorRom ∧ t.rom = s.rom ∧ t.romEnableMask = s.romEnableMask)

/-- Every step keeps the invariant: memories in canonical form, a valid configuration, IPeriod in its range, IElapsed a 64-bit
count. -/
def Obligations.StepKeepsWellFormed : Prop :=
  ∀ s t : State, s.wellFormed → step s = .next t → t.wellFormed

/-- Every step keeps every byte of memory in its place: the monitor ROM is 8192 bytes, a byte of a slot ROM lies in an installed
sub-page of a slot in 0..7, and RAM is `N` blocks of 16384 bytes, neither more nor fewer than `configure` gave it. -/
def Obligations.StepKeepsMemoryInside : Prop :=
  ∀ s t : State, s.cfg.valid = true → s.memoryInside → step s = .next t → t.memoryInside

/-- From any state, every instruction completes when its port, if it has one, has a handler or the port policy is permissive:
no instruction of the table is refused, and no other state stops one. -/
def Obligations.EveryInstructionCompletes : Prop :=
  ∀ (i : Instr) (s : State),
    s.cfg.portPolicy = .permissive ∨
      ((∀ b, b ∈ s.cfg.portMapIn) ∧ ∀ b, b = s.cfg.ioBytePort ∨ b ∈ s.cfg.portMapOut) →
      ∃ t, exec i s = .next t

/-! ### Reset, configuration and the run loop -/

/-- `reset` on any state: the values the rule names, each open register its own draw, and nothing else. -/
def Obligations.CpuReset : Prop :=
  ∀ s : State,
    s.cpuReset.cpu.pc = 0x0000 ∧ s.cpuReset.cpu.sp = 0xFFFF ∧ s.cpuReset.cpu.iff1 = false ∧ s.cpuReset.cpu.iff2 = false ∧
    s.cpuReset.cpu.im = .im0 ∧ s.cpuReset.cpu.eiDelay = false ∧ s.cpuReset.cpu.halted = false ∧
    s.cpuReset.cpu.inService = false ∧ s.cpuReset.intPending = false ∧ s.cpuReset.nmiPending = false ∧
    s.cpuReset.cpu.i = 0x00 ∧ s.cpuReset.cpu.r7 = false ∧
    s.cpuReset.iCount = s.iPeriod ∧ s.cpuReset.iBackup = s.iPeriod ∧ s.cpuReset.iElapsed = 0 ∧
    s.cpuReset.iPeriod = s.iPeriod ∧ s.storesNothing s.cpuReset ∧
    s.cpuReset.hostReplies = s.hostReplies ∧ s.cpuReset.hostLog = s.hostLog ∧
    (∃ k : Nat → Nat, Function.Injective k ∧ (∀ n, s.draws ≤ k n) ∧
      s.cpuReset.cpu.main =
        ⟨Config.draw (k 0), Flags.ofByte (Config.draw (k 1)), Config.draw (k 2), Config.draw (k 3), Config.draw (k 4),
          Config.draw (k 5), Config.draw (k 6), Config.draw (k 7)⟩ ∧
      s.cpuReset.cpu.shadow =
        ⟨Config.draw (k 8), Flags.ofByte (Config.draw (k 9)), Config.draw (k 10), Config.draw (k 11), Config.draw (k 12),
          Config.draw (k 13), Config.draw (k 14), Config.draw (k 15)⟩ ∧
      s.cpuReset.cpu.ix = joinBytes (Config.draw (k 16)) (Config.draw (k 17)) ∧
      s.cpuReset.cpu.iy = joinBytes (Config.draw (k 18)) (Config.draw (k 19)))

/-- The machine after power-on: the values R600 and R51 name, at the configuration of log 4, and the invariants of
`StepKeepsWellFormed` and `StepKeepsMemoryInside`. The registers R600 leaves to draws are the model's own choice, 0 (log 2). -/
def Obligations.ResetState : Prop :=
  (State.reset.cpu.pc = 0x0000 ∧ State.reset.cpu.sp = 0xFFFF ∧ State.reset.cpu.iff1 = false ∧
  State.reset.cpu.iff2 = false ∧ State.reset.cpu.im = .im0 ∧ State.reset.cpu.eiDelay = false ∧
  State.reset.cpu.halted = false ∧ State.reset.cpu.inService = false ∧ State.reset.intPending = false ∧
  State.reset.nmiPending = false ∧ State.reset.cpu.i = 0x00 ∧ State.reset.cpu.r7 = false ∧
  State.reset.iCount = State.reset.iPeriod ∧ State.reset.iBackup = State.reset.iPeriod ∧ State.reset.iElapsed = 0 ∧
  State.reset.ioByte = 0x00 ∧ State.reset.subPage = 0x00 ∧ State.reset.romEnableMask = 0xFF) ∧
  State.reset.wellFormed ∧ State.reset.memoryInside

/-- `configure` gives a machine for valid parameters and images that fit, with the memory-map registers at their configured values
and the images installed, and refuses otherwise: fewer than 2 blocks, more than MAX_BLOCKS, a slot outside 0..7, in the counts of
sub-pages or in an image, more than 256 sub-pages, or a byte with no place in the machine (of these last, R101
names the slot alone: log 15). -/
def Obligations.Configure : Prop :=
  ∀ (c : Config) (p : Int) (monitor slots ram : Memory),
    (∀ s, configure c p monitor slots ram = some s →
      s.ioByte = 0x00 ∧ s.subPage = 0x00 ∧ s.romEnableMask = 0xFF ∧ s.cfg = c ∧ s.iPeriod = p ∧
      s.monitorRom = monitor ∧ s.rom = slots ∧ s.ram = ram ∧ s.cpuReset.wellFormed ∧ s.cpuReset.memoryInside) ∧
    (c.valid = true → 23 ≤ p → p ≤ 2 ^ 30 → monitor.wf → slots.wf → ram.wf → MemoryInside c monitor slots ram →
      ∃ s, configure c p monitor slots ram = some s) ∧
    (c.ramBlockCount < 2 ∨ c.maxBlocks < c.ramBlockCount ∨ 8 < c.nSub.length ∨ (∃ n ∈ c.nSub, 256 < n) ∨
        p < 23 ∨ 2 ^ 30 < p ∨ (∃ b ∈ slots, romIndex 8 0 0 ≤ b.1) ∨ ¬ MemoryInside c monitor slots ram →
      configure c p monitor slots ram = none)

/-- Under `run`, on a machine that `configure` made, ICount is back in 1 .. 2^30 after every pass that goes on and after the pass
that quits, whose state a later `run` resumes from. -/
def Obligations.RunKeepsCountInRange : Prop :=
  ∀ s t : State, s.cfg.valid = true → periodOk s.iPeriod = true → s.countInRange →
    (runStep s = .running t ∨ ∃ pc, runStep s = .quit pc t) →
      t.countInRange ∧ periodOk t.iPeriod = true ∧ t.cfg = s.cfg

/-- No cycle is lost or counted twice: under `run`, after every pass that goes on and after the pass that quits, the cycles told in
the callbacks, and those run since the last reload, make up the elapsed cycles. -/
def Obligations.RunLosesNoCycle : Prop :=
  ∀ s t : State, (runStep s = .running t ∨ ∃ pc, runStep s = .quit pc t) →
    elapsedTold t.hostLog + (t.iBackup - t.iCount) - t.iElapsed =
      elapsedTold s.hostLog + (s.iBackup - s.iCount) - s.iElapsed

/-- The periodic callback: it runs when ICount is used up after a step, is told the cycles since the last reload, and the reload
carries the overshoot over; a write of IPeriod in the callback takes effect at this reload (log 20), and one out of range
refuses. Then its 16-bit answer does nothing, quits with PC, or raises an NMI or a maskable request. -/
def Obligations.PeriodicCheck : Prop :=
  (∀ s t : State, step s = .next t →
    let ev := HostEvent.periodicCheck (t.iBackup - t.iCount) t.cpu
    let r := t.hostReply ev
    (0 < t.iCount → runStep s = .running t) ∧
    (t.iCount ≤ 0 → r.newPeriod = none ∨ (∃ p, r.newPeriod = some p ∧ 23 ≤ p ∧ p ≤ 2 ^ 30) →
      ∃ u, runStep s = u.handleResult r.result ∧ t.called u ev ∧ u.cpu = t.cpu ∧ t.storesNothing u ∧
        u.iElapsed = t.iElapsed ∧ u.iPeriod = r.newPeriod.getD t.iPeriod ∧
        u.iCount = t.iCount + r.newPeriod.getD t.iPeriod ∧ u.iBackup = u.iCount) ∧
    (∀ p, t.iCount ≤ 0 → r.newPeriod = some p → p < 23 ∨ 2 ^ 30 < p → runStep s = .refused (.periodOutOfRange p))) ∧
  (∀ (s : State) (r : Word),
    s.handleResult 0xFFFF = .running s ∧ s.handleResult 0xFFFE = .quit s.cpu.pc s ∧
    s.handleResult 0x0066 = .running { s with nmiPending := true } ∧
    (r ≠ 0xFFFF → r ≠ 0xFFFE → r ≠ 0x0066 → s.handleResult r = .running { s with intPending := true }))

/-! ### The memory map -/

/-- The three tables, entry by entry, from the I/O-byte, the sub-page, the mask and `ramMap`. -/
def Obligations.MapTables : Prop :=
  ∀ (s : State) (w h : Nat), w ≤ 3 → h ≤ 1 →
    let pg := if s.slot = 2 then s.subPage.toNat else 0
    let ram (unmapped : Target) := match s.ramMap w with
      | some b => Target.ram b h
      | none => unmapped
    s.slot = (s.ioByte.extractLsb' 4 3).toNat ∧
    (s.ioByte.getLsbD 7 = false →
      s.readTable 0 = .mon ∧ s.writeTable 0 = .subpage ∧ s.updateTable 0 = .mon ∧ s.writeTable 1 = .vapour ∧
      s.readTable 1 =
        (if pg < s.cfg.nSub.getD s.slot 0 ∧ s.romEnableMask.getLsbD s.slot = true then .rom s.slot pg else .high) ∧
      s.updateTable 1 = (if pg < s.cfg.nSub.getD s.slot 0 then .rom s.slot pg else .vapour) ∧
      (1 ≤ w → s.readTable (2 * w + h) = ram .high ∧ s.writeTable (2 * w + h) = ram .vapour ∧
        s.updateTable (2 * w + h) = ram .vapour)) ∧
    (s.ioByte.getLsbD 7 = true →
      s.readTable (2 * w + h) = ram .high ∧ s.writeTable (2 * w + h) = ram .vapour ∧
        s.updateTable (2 * w + h) = ram .vapour)

/-- The CPU's byte accesses. A read, by the target of the address's entry. A write to RAM is read back at every address of the
same cell and at no other; a write elsewhere changes no byte of memory; a write to the sub-page entry sets `subPage` and
changes what a read gives only where slot 2 is shown. -/
def Obligations.ByteAccess : Prop :=
  (∀ (s : State) (a : Word),
    let k := (a.extractLsb' 13 3).toNat
    let o := (a.extractLsb' 0 13).toNat
    (s.readTable k = .mon → s.readByte a = s.monitorRom.read o) ∧
    (∀ slot page, s.readTable k = .rom slot page → s.readByte a = s.rom.read (romIndex slot page o)) ∧
    (∀ b h, s.readTable k = .ram b h → s.readByte a = s.ram.read (ramIndex b h o)) ∧
    (s.readTable k = .high → s.readByte a = 0xFF)) ∧
  (∀ (s : State) (a : Word) (v : Byte),
    (s.writeByte a v).cpu = s.cpu ∧ (s.writeByte a v).monitorRom = s.monitorRom ∧ (s.writeByte a v).rom = s.rom ∧
    (s.writeByte a v).ioByte = s.ioByte ∧ (s.writeByte a v).romEnableMask = s.romEnableMask ∧
    (s.writeByte a v).cfg = s.cfg ∧
    (∀ b h, s.writeTable (entryOf a) = .ram b h →
      (s.writeByte a v).subPage = s.subPage ∧ s.readTable (entryOf a) = .ram b h ∧
      ∀ x, (s.writeByte a v).readByte x =
        if s.readTable (entryOf x) = .ram b h ∧ offsetOf x = offsetOf a then v else s.readByte x) ∧
    (s.writeTable (entryOf a) = .vapour → s.writeByte a v = s) ∧
    (s.writeTable (entryOf a) = .subpage →
      (s.writeByte a v).subPage = v ∧ (s.writeByte a v).ram = s.ram ∧
      ∀ x, entryOf x ≠ 1 ∨ s.slot ≠ 2 → (s.writeByte a v).readByte x = s.readByte x) ∧
    (s.writeTable (entryOf a) = .vapour ∨ s.writeTable (entryOf a) = .subpage ∨
      ∃ b h, s.writeTable (entryOf a) = .ram b h))

/-- The host's access: `internalRead` is the CPU's read, and `internalWrite` goes through the update table, which reaches ROM
and has no sub-page side effect. -/
def Obligations.InternalAccess : Prop :=
  ∀ (s : State) (a : Word) (v : Byte),
    s.internalRead a = s.readByte a ∧
    (s.internalWrite a v).cpu = s.cpu ∧ (s.internalWrite a v).sameMap s ∧
    (s.updateTable (entryOf a) = .vapour → s.internalWrite a v = s) ∧
    (∀ x, (s.internalWrite a v).readByte x =
      if s.updateTable (entryOf a) = s.readTable (entryOf x) ∧ offsetOf x = offsetOf a then v else s.readByte x)

/-- Words and the stack: a 16-bit access is two byte accesses, low byte first at the lower address; a push writes the high
byte at SP - 1 and then the low byte at SP - 2, and a pop reads the word back, when both bytes are RAM. -/
def Obligations.WordsAndStack : Prop :=
  ∀ (s : State) (a v : Word),
    s.readWord a = joinBytes (s.readByte (a + 1)) (s.readByte a) ∧
    s.writeWord a v = (s.writeByte a (lowByte v)).writeByte (a + 1) (highByte v) ∧
    (s.push16 v).cpu = { s.cpu with sp := s.cpu.sp - 2 } ∧ s.pushed (s.push16 v) v ∧
    s.popValue = joinBytes (s.readByte (s.cpu.sp + 1)) (s.readByte s.cpu.sp) ∧
    s.popped.cpu = { s.cpu with sp := s.cpu.sp + 2 } ∧
    ((∃ b h, s.writeTable (entryOf (s.cpu.sp - 1)) = .ram b h) →
      (∃ b h, s.writeTable (entryOf (s.cpu.sp - 2)) = .ram b h) →
      ¬ s.touches (s.cpu.sp - 2) (s.cpu.sp - 1) →
        (s.push16 v).popValue = v ∧ (s.push16 v).popped.cpu = s.cpu)

/-- The reference instance of `ramMap` meets the laws L1 to L5 at every number of blocks it is for. -/
def Obligations.ReferenceRamMap : Prop :=
  ∀ n : Nat, 2 ≤ n → n ≤ 49 →
    let c := { Config.reference with ramBlockCount := n, ramTable := referenceRamTable n }
    c.valid = true ∧
    ∀ (romRam : Bool) (nibble w : Nat), nibble < 16 → w < 4 →
      c.ramEntry romRam nibble w = referenceRamMap n romRam nibble w

/-! ### 8-bit loads -/

/-- The 8-bit loads of a register: the register takes the value, memory operands are read at the address computed before the
instruction, and nothing else changes but PC. -/
def Obligations.ByteLoads : Prop :=
  ((∀ (r r' : Reg8) (s : State),
    encode (.ldRegReg r r') = [opByte 1 (regCode r) (regCode r')] ∧
    ∃ t, exec (.ldRegReg r r') s = .next t ∧ s.onlyMain t 1 ∧ s.onlyReg t r (s.reg8 r') ∧ s.sameFlags t ∧
      s.storesNothing t ∧ s.charged t 4 ∧ s.quiet t) ∧
  (∀ (r : Reg8) (n : Byte) (s : State),
    encode (.ldRegImm r n) = [opByte 0 (regCode r) 6, n] ∧
    ∃ t, exec (.ldRegImm r n) s = .next t ∧ s.onlyMain t 2 ∧ s.onlyReg t r n ∧ s.sameFlags t ∧
      s.storesNothing t ∧ s.charged t 7 ∧ s.quiet t)) ∧
  (∀ s : State,
    (∀ r : Reg8, encode (.ldRegMemHl r) = [opByte 1 (regCode r) 6] ∧
      ∃ t, exec (.ldRegMemHl r) s = .next t ∧ s.onlyMain t 1 ∧ s.onlyReg t r (s.readByte s.hl) ∧ s.sameFlags t ∧
        s.storesNothing t ∧ s.charged t 7 ∧ s.quiet t) ∧
    (∀ (x : IndexReg) (r : Reg8) (d : Byte), encode (.ldRegIndexed x r d) = [indexCode x, opByte 1 (regCode r) 6, d] ∧
      ∃ t, exec (.ldRegIndexed x r d) s = .next t ∧ s.onlyMain t 3 ∧
        s.onlyReg t r (s.readByte (s.index x + d.signExtend 16)) ∧ s.sameFlags t ∧ s.storesNothing t ∧
        s.charged t 19 ∧ s.quiet t) ∧
    (encode .ldAMemBc = [0x0A] ∧
      ∃ t, exec .ldAMemBc s = .next t ∧ s.onlyMain t 1 ∧ s.onlyReg t .a (s.readByte s.bc) ∧ s.sameFlags t ∧
        s.storesNothing t ∧ s.charged t 7 ∧ s.quiet t) ∧
    (encode .ldAMemDe = [0x1A] ∧
      ∃ t, exec .ldAMemDe s = .next t ∧ s.onlyMain t 1 ∧ s.onlyReg t .a (s.readByte s.de) ∧ s.sameFlags t ∧
        s.storesNothing t ∧ s.charged t 7 ∧ s.quiet t) ∧
    (∀ nn : Word, encode (.ldAMemNn nn) = [0x3A, lowByte nn, highByte nn] ∧
      ∃ t, exec (.ldAMemNn nn) s = .next t ∧ s.onlyMain t 3 ∧ s.onlyReg t .a (s.readByte nn) ∧ s.sameFlags t ∧
        s.storesNothing t ∧ s.charged t 13 ∧ s.quiet t))

/-- The stores: a byte goes through the CPU's write path at the computed address; a word is stored as its low byte at the address,
then its high byte at the next; and no register changes. -/
def Obligations.StoreForms : Prop :=
  (∀ s : State,
    (∀ r : Reg8, encode (.ldMemHlReg r) = [opByte 1 6 (regCode r)] ∧
      ∃ t, exec (.ldMemHlReg r) s = .next t ∧ t.cpu = s.cpu.past 1 ∧ s.storesByte t s.hl (s.reg8 r) ∧
        s.charged t 7 ∧ s.quiet t) ∧
    (∀ (x : IndexReg) (r : Reg8) (d : Byte), encode (.ldIndexedReg x r d) = [indexCode x, opByte 1 6 (regCode r), d] ∧
      ∃ t, exec (.ldIndexedReg x r d) s = .next t ∧ t.cpu = s.cpu.past 3 ∧
        s.storesByte t (s.index x + d.signExtend 16) (s.reg8 r) ∧ s.charged t 19 ∧ s.quiet t) ∧
    (∀ n : Byte, encode (.ldMemHlN n) = [0x36, n] ∧
      ∃ t, exec (.ldMemHlN n) s = .next t ∧ t.cpu = s.cpu.past 2 ∧ s.storesByte t s.hl n ∧
        s.charged t 10 ∧ s.quiet t) ∧
    (∀ (x : IndexReg) (d n : Byte), encode (.ldIndexedImm x d n) = [indexCode x, 0x36, d, n] ∧
      ∃ t, exec (.ldIndexedImm x d n) s = .next t ∧ t.cpu = s.cpu.past 4 ∧
        s.storesByte t (s.index x + d.signExtend 16) n ∧ s.charged t 19 ∧ s.quiet t) ∧
    (encode .ldMemBcA = [0x02] ∧
      ∃ t, exec .ldMemBcA s = .next t ∧ t.cpu = s.cpu.past 1 ∧ s.storesByte t s.bc s.cpu.main.a ∧
        s.charged t 7 ∧ s.quiet t) ∧
    (encode .ldMemDeA = [0x12] ∧
      ∃ t, exec .ldMemDeA s = .next t ∧ t.cpu = s.cpu.past 1 ∧ s.storesByte t s.de s.cpu.main.a ∧
        s.charged t 7 ∧ s.quiet t) ∧
    (∀ nn : Word, encode (.ldMemNnA nn) = [0x32, lowByte nn, highByte nn] ∧
      ∃ t, exec (.ldMemNnA nn) s = .next t ∧ t.cpu = s.cpu.past 3 ∧ s.storesByte t nn s.cpu.main.a ∧
        s.charged t 13 ∧ s.quiet t)) ∧
  (∀ (s : State) (nn : Word),
    (encode (.ldMemNnHl nn) = [0x22, lowByte nn, highByte nn] ∧
      ∃ t, exec (.ldMemNnHl nn) s = .next t ∧ t.cpu = s.cpu.past 3 ∧
        s.storesTwo t nn s.cpu.main.l (nn + 1) s.cpu.main.h ∧ s.charged t 16 ∧ s.quiet t) ∧
    (∀ p : Pair, encode (.ldMemPair p nn) = [0xED, opByte 1 (2 * pairCode p) 3, lowByte nn, highByte nn] ∧
      ∃ t, exec (.ldMemPair p nn) s = .next t ∧ t.cpu = s.cpu.past 4 ∧
        s.storesTwo t nn (lowByte (s.pair p)) (nn + 1) (highByte (s.pair p)) ∧ s.charged t 20 ∧ s.quiet t) ∧
    (∀ x : IndexReg, encode (.ldMemIndex x nn) = [indexCode x, 0x22, lowByte nn, highByte nn] ∧
      ∃ t, exec (.ldMemIndex x nn) s = .next t ∧ t.cpu = s.cpu.past 4 ∧
        s.storesTwo t nn (lowByte (s.index x)) (nn + 1) (highByte (s.index x)) ∧ s.charged t 20 ∧ s.quiet t))

/-- `LD A,I`, `LD A,R`, `LD I,A` and `LD R,A`: PV takes IFF2, C is unchanged, bits 6:0 of what `LD A,R` gives are a draw, and
of R only bit 7 is kept. -/
def Obligations.InterruptRegisterLoads : Prop :=
  ∀ s : State,
    (encode .ldAI = [0xED, 0x57] ∧
      ∃ t, exec .ldAI s = .next t ∧ s.onlyMain t 2 ∧ s.onlyReg t .a s.cpu.i ∧
        t.cpu.main.f.s = s.cpu.i.getLsbD 7 ∧ t.cpu.main.f.z = decide (s.cpu.i = 0) ∧ t.cpu.main.f.h = false ∧
        t.cpu.main.f.pv = s.cpu.iff2 ∧ t.cpu.main.f.n = false ∧ t.cpu.main.f.c = s.cpu.main.f.c ∧
        s.storesNothing t ∧ s.charged t 9 ∧ s.quiet t) ∧
    (encode .ldAR = [0xED, 0x5F] ∧
      ∃ t v, exec .ldAR s = .next t ∧ s.onlyMain t 2 ∧ s.onlyReg t .a v ∧ v.getLsbD 7 = s.cpu.r7 ∧
        t.cpu.main.f.s = v.getLsbD 7 ∧ t.cpu.main.f.z = decide (v = 0) ∧ t.cpu.main.f.h = false ∧
        t.cpu.main.f.pv = s.cpu.iff2 ∧ t.cpu.main.f.n = false ∧ t.cpu.main.f.c = s.cpu.main.f.c ∧
        s.storesNothing t ∧ s.charged t 9 ∧ s.quiet t) ∧
    (encode .ldIA = [0xED, 0x47] ∧
      ∃ t, exec .ldIA s = .next t ∧ t.cpu = { s.cpu.past 2 with i := s.cpu.main.a } ∧
        s.storesNothing t ∧ s.charged t 9 ∧ s.quiet t) ∧
    (encode .ldRA = [0xED, 0x4F] ∧
      ∃ t, exec .ldRA s = .next t ∧ t.cpu = { s.cpu.past 2 with r7 := s.cpu.main.a.getLsbD 7 } ∧
        s.storesNothing t ∧ s.charged t 9 ∧ s.quiet t)

/-! ### 16-bit loads and the stack -/

/-- The 16-bit loads of a pair, an index register and SP; and the register pairs, two 8-bit registers with the first-named one
high, as one value with three views. -/
def Obligations.PairLoads : Prop :=
  (∀ s : State,
    (∀ (p : Pair) (nn : Word), encode (.ldPairImm p nn) = [opByte 0 (2 * pairCode p) 1, lowByte nn, highByte nn] ∧
      ∃ t, exec (.ldPairImm p nn) s = .next t ∧ t.cpu = (s.setPair p nn).cpu.past 3 ∧ t.pair p = nn ∧
        (∀ q, q ≠ p → t.pair q = s.pair q) ∧ t.cpu.main.a = s.cpu.main.a ∧ s.sameFlags t ∧
        s.storesNothing t ∧ s.charged t 10 ∧ s.quiet t) ∧
    (∀ (p : Pair) (nn : Word),
      encode (.ldPairMem p nn) = [0xED, opByte 1 (2 * pairCode p + 1) 3, lowByte nn, highByte nn] ∧
      ∃ t, exec (.ldPairMem p nn) s = .next t ∧ t.cpu = (s.setPair p (s.readWord nn)).cpu.past 4 ∧
        t.pair p = joinBytes (s.readByte (nn + 1)) (s.readByte nn) ∧
        (∀ q, q ≠ p → t.pair q = s.pair q) ∧ t.cpu.main.a = s.cpu.main.a ∧ s.sameFlags t ∧
        s.storesNothing t ∧ s.charged t 20 ∧ s.quiet t) ∧
    (∀ nn : Word, encode (.ldHlMemNn nn) = [0x2A, lowByte nn, highByte nn] ∧
      ∃ t, exec (.ldHlMemNn nn) s = .next t ∧
        t.cpu = { s.cpu.past 3 with
          main := { s.cpu.main with h := s.readByte (nn + 1), l := s.readByte nn } } ∧
        s.storesNothing t ∧ s.charged t 16 ∧ s.quiet t) ∧
    (∀ (x : IndexReg) (nn : Word), encode (.ldIndexImm x nn) = [indexCode x, 0x21, lowByte nn, highByte nn] ∧
      ∃ t, exec (.ldIndexImm x nn) s = .next t ∧ t.cpu = (s.setIndex x nn).cpu.past 4 ∧ t.index x = nn ∧
        (∀ y, y ≠ x → t.index y = s.index y) ∧ s.sameRegs t ∧ s.sameFlags t ∧ s.storesNothing t ∧ s.charged t 14 ∧ s.quiet t) ∧
    (∀ (x : IndexReg) (nn : Word), encode (.ldIndexMem x nn) = [indexCode x, 0x2A, lowByte nn, highByte nn] ∧
      ∃ t, exec (.ldIndexMem x nn) s = .next t ∧ t.cpu = (s.setIndex x (s.readWord nn)).cpu.past 4 ∧
        t.index x = joinBytes (s.readByte (nn + 1)) (s.readByte nn) ∧ (∀ y, y ≠ x → t.index y = s.index y) ∧
        s.sameRegs t ∧ s.sameFlags t ∧ s.storesNothing t ∧ s.charged t 20 ∧ s.quiet t) ∧
    (encode .ldSpHl = [0xF9] ∧
      ∃ t, exec .ldSpHl s = .next t ∧ t.cpu = { s.cpu.past 1 with sp := s.hl } ∧
        s.storesNothing t ∧ s.charged t 6 ∧ s.quiet t) ∧
    (∀ x : IndexReg, encode (.ldSpIndex x) = [indexCode x, 0xF9] ∧
      ∃ t, exec (.ldSpIndex x) s = .next t ∧ t.cpu = { s.cpu.past 2 with sp := s.index x } ∧
        s.storesNothing t ∧ s.charged t 10 ∧ s.quiet t)) ∧
  (∀ (s : State) (v : Word),
    s.bc.toNat = 256 * s.cpu.main.b.toNat + s.cpu.main.c.toNat ∧
    s.de.toNat = 256 * s.cpu.main.d.toNat + s.cpu.main.e.toNat ∧
    s.hl.toNat = 256 * s.cpu.main.h.toNat + s.cpu.main.l.toNat ∧
    s.af.toNat = 256 * s.cpu.main.a.toNat + s.cpu.main.f.toByte.toNat ∧
    (s.setBc v).bc = v ∧ (s.setDe v).de = v ∧ (s.setHl v).hl = v ∧ (s.setAf v).af = v ∧
    (s.setBc v).cpu.main.b.toNat = v.toNat / 256 ∧ (s.setBc v).cpu.main.c.toNat = v.toNat % 256)

/-- The pushes and pops. A push: SP goes down by 2, the high byte is written at SP - 1 and then the low byte at SP - 2; `PUSH AF`
pushes F whole. A pop: the low byte from SP, the high byte from SP + 1, and SP goes up by 2; `POP AF` writes all of F. -/
def Obligations.PushAndPop : Prop :=
  (∀ s : State,
    (∀ q : PairQ, encode (.pushPair q) = [opByte 3 (2 * pairQCode q) 5] ∧
      ∃ t, exec (.pushPair q) s = .next t ∧ t.cpu = { s.cpu.past 1 with sp := s.cpu.sp - 2 } ∧
        s.pushed t (s.pairQ q) ∧ s.charged t 11 ∧ s.quiet t) ∧
    (∀ x : IndexReg, encode (.pushIndex x) = [indexCode x, 0xE5] ∧
      ∃ t, exec (.pushIndex x) s = .next t ∧ t.cpu = { s.cpu.past 2 with sp := s.cpu.sp - 2 } ∧
        s.pushed t (s.index x) ∧ s.charged t 15 ∧ s.quiet t)) ∧
  (∀ s : State,
    let hi := s.readByte (s.cpu.sp + 1)
    let lo := s.readByte s.cpu.sp
    (∀ q : PairQ, encode (.popPair q) = [opByte 3 (2 * pairQCode q) 1] ∧
      ∃ t, exec (.popPair q) s = .next t ∧ s.storesNothing t ∧ s.charged t 10 ∧ s.quiet t ∧
        t.cpu = { s.cpu.past 1 with
          sp := s.cpu.sp + 2
          main := match q with
            | .bc => { s.cpu.main with b := hi, c := lo }
            | .de => { s.cpu.main with d := hi, e := lo }
            | .hl => { s.cpu.main with h := hi, l := lo }
            | .af => { s.cpu.main with a := hi, f := t.cpu.main.f } } ∧
        (q = .af → t.cpu.main.f.toByte = lo)) ∧
    (∀ x : IndexReg, encode (.popIndex x) = [indexCode x, 0xE1] ∧
      ∃ t, exec (.popIndex x) s = .next t ∧ s.storesNothing t ∧ s.charged t 14 ∧ s.quiet t ∧
        t.cpu = { (s.setIndex x (joinBytes hi lo)).cpu.past 2 with sp := s.cpu.sp + 2 } ∧
        t.index x = joinBytes hi lo ∧ (∀ y, y ≠ x → t.index y = s.index y) ∧ s.sameRegs t ∧ s.sameFlags t))

/-! ### Exchanges, block transfer and search -/

/-- The exchanges. `EX DE,HL`, `EX AF,AF'` and `EXX` swap values whole, F among them, and no flag is computed. `EX (SP),HL`, IX and
IY: the word at SP is read, then the high byte is written at SP + 1 and the low byte at SP; SP is unchanged. -/
def Obligations.Exchanges : Prop :=
  (∀ s : State,
    (encode .exDeHl = [0xEB] ∧
      ∃ t, exec .exDeHl s = .next t ∧ s.storesNothing t ∧ s.charged t 4 ∧ s.quiet t ∧
        t.cpu = { s.cpu.past 1 with
          main := { s.cpu.main with d := s.cpu.main.h, e := s.cpu.main.l, h := s.cpu.main.d, l := s.cpu.main.e } }) ∧
    (encode .exAfAfAlt = [0x08] ∧
      ∃ t, exec .exAfAfAlt s = .next t ∧ s.storesNothing t ∧ s.charged t 4 ∧ s.quiet t ∧
        t.cpu = { s.cpu.past 1 with
          main := { s.cpu.main with a := s.cpu.shadow.a, f := s.cpu.shadow.f }
          shadow := { s.cpu.shadow with a := s.cpu.main.a, f := s.cpu.main.f } }) ∧
    (encode .exx = [0xD9] ∧
      ∃ t, exec .exx s = .next t ∧ s.storesNothing t ∧ s.charged t 4 ∧ s.quiet t ∧
        t.cpu = { s.cpu.past 1 with
          main := { s.cpu.shadow with a := s.cpu.main.a, f := s.cpu.main.f }
          shadow := { s.cpu.main with a := s.cpu.shadow.a, f := s.cpu.shadow.f } })) ∧
  (∀ s : State,
    (encode .exMemSpHl = [0xE3] ∧
      ∃ t, exec .exMemSpHl s = .next t ∧ s.charged t 19 ∧ s.quiet t ∧
        t.cpu = { s.cpu.past 1 with
          main := { s.cpu.main with h := s.readByte (s.cpu.sp + 1), l := s.readByte s.cpu.sp } } ∧
        s.storesTwo t (s.cpu.sp + 1) s.cpu.main.h s.cpu.sp s.cpu.main.l) ∧
    (∀ x : IndexReg, encode (.exMemSpIndex x) = [indexCode x, 0xE3] ∧
      ∃ t, exec (.exMemSpIndex x) s = .next t ∧ s.charged t 23 ∧ s.quiet t ∧
        t.cpu = (s.setIndex x (joinBytes (s.readByte (s.cpu.sp + 1)) (s.readByte s.cpu.sp))).cpu.past 2 ∧
        t.index x = joinBytes (s.readByte (s.cpu.sp + 1)) (s.readByte s.cpu.sp) ∧
        (∀ y, y ≠ x → t.index y = s.index y) ∧ s.sameRegs t ∧ s.sameFlags t ∧
        s.storesTwo t (s.cpu.sp + 1) (highByte (s.index x)) s.cpu.sp (lowByte (s.index x))))

/-- `LDI`, `LDD`, `LDIR` and `LDDR`: one iteration, which goes back to the instruction's first byte while BC is not 0. -/
def Obligations.BlockTransfer : Prop :=
  encode .ldi = [0xED, 0xA0] ∧ encode .ldir = [0xED, 0xB0] ∧ encode .ldd = [0xED, 0xA8] ∧ encode .lddr = [0xED, 0xB8] ∧
  ∀ (s : State) (i : Instr) (move : Word) (repeats : Bool),
    (i, move, repeats) ∈ ([(.ldi, 1, false), (.ldir, 1, true), (.ldd, -1, false), (.lddr, -1, true)] :
      List (Instr × Word × Bool)) →
      ∃ t, exec i s = .next t ∧
        t.bc = s.bc - 1 ∧ t.de = s.de + move ∧ t.hl = s.hl + move ∧ t.cpu.main.a = s.cpu.main.a ∧
        t.cpu.main.f.s = s.cpu.main.f.s ∧ t.cpu.main.f.z = s.cpu.main.f.z ∧ t.cpu.main.f.c = s.cpu.main.f.c ∧
        t.cpu.main.f.h = false ∧ t.cpu.main.f.n = false ∧ t.cpu.main.f.pv = decide (s.bc - 1 ≠ 0) ∧
        s.storesByte t s.de (s.readByte s.hl) ∧ s.quiet t ∧
        (repeats = true ∧ s.bc - 1 ≠ 0 → s.onlyMain t 0 ∧ s.charged t 21) ∧
        (repeats = false ∨ s.bc - 1 = 0 → s.onlyMain t 2 ∧ s.charged t 16)

/-- `CPI`, `CPD`, `CPIR` and `CPDR`: one iteration, which goes back while BC is not 0 and A is not the byte read. -/
def Obligations.BlockSearch : Prop :=
  encode .cpi = [0xED, 0xA1] ∧ encode .cpir = [0xED, 0xB1] ∧ encode .cpd = [0xED, 0xA9] ∧ encode .cpdr = [0xED, 0xB9] ∧
  ∀ (s : State) (i : Instr) (move : Word) (repeats : Bool),
    (i, move, repeats) ∈ ([(.cpi, 1, false), (.cpir, 1, true), (.cpd, -1, false), (.cpdr, -1, true)] :
      List (Instr × Word × Bool)) →
      let v := s.readByte s.hl
      ∃ t, exec i s = .next t ∧
        t.bc = s.bc - 1 ∧ t.de = s.de ∧ t.hl = s.hl + move ∧ t.cpu.main.a = s.cpu.main.a ∧
        t.cpu.main.f.s = (s.cpu.main.a - v).getLsbD 7 ∧ t.cpu.main.f.z = decide (s.cpu.main.a = v) ∧
        t.cpu.main.f.h = decide (s.cpu.main.a.toNat % 16 < v.toNat % 16) ∧
        t.cpu.main.f.pv = decide (s.bc - 1 ≠ 0) ∧ t.cpu.main.f.n = true ∧ t.cpu.main.f.c = s.cpu.main.f.c ∧
        s.storesNothing t ∧ s.quiet t ∧
        (repeats = true ∧ s.bc - 1 ≠ 0 ∧ s.cpu.main.a ≠ v → s.onlyMain t 0 ∧ s.charged t 21) ∧
        (repeats = false ∨ s.bc - 1 = 0 ∨ s.cpu.main.a = v → s.onlyMain t 2 ∧ s.charged t 16)

/-! ### 8-bit arithmetic and logic -/

/-- `ADD`, `ADC`, `SUB`, `SBC` and `CP` on each of the five sources: result and flags of `add8` and `sub8`; `CP` keeps A. -/
def Obligations.AddAndSubtract : Prop :=
  ∀ (op : AluOp) (v : AluSource) (s : State),
    encode (v.instr op) = v.bytes (aluCode op) ∧
    (op ≠ .and → op ≠ .xor → op ≠ .or →
      ∃ t, exec (v.instr op) s = .next t ∧ s.onlyMain t (encode (v.instr op)).length ∧
        (∀ q, q ≠ .a → t.reg8 q = s.reg8 q) ∧ s.storesNothing t ∧ s.charged t v.cycles ∧ s.quiet t ∧
        (match op with
          | .add => IsAdd8 t.cpu.main.f t.cpu.main.a s.cpu.main.a (s.sourceValue v) false
          | .adc => IsAdd8 t.cpu.main.f t.cpu.main.a s.cpu.main.a (s.sourceValue v) s.cpu.main.f.c
          | .sub => IsSub8 t.cpu.main.f t.cpu.main.a s.cpu.main.a (s.sourceValue v) false
          | .sbc => IsSub8 t.cpu.main.f t.cpu.main.a s.cpu.main.a (s.sourceValue v) s.cpu.main.f.c
          | _ => t.cpu.main.a = s.cpu.main.a ∧
              ∃ res, IsSub8 t.cpu.main.f res s.cpu.main.a (s.sourceValue v) false))

/-- `AND`, `OR` and `XOR` on each of the five sources, bit by bit; PV is the parity of the result, C is cleared, and H is set
by `AND` alone. -/
def Obligations.LogicOperations : Prop :=
  ∀ (op : AluOp) (v : AluSource) (s : State), op = .and ∨ op = .xor ∨ op = .or →
    encode (v.instr op) = v.bytes (aluCode op) ∧
    ∃ t, exec (v.instr op) s = .next t ∧ s.onlyMain t (encode (v.instr op)).length ∧
      (∀ q, q ≠ .a → t.reg8 q = s.reg8 q) ∧ s.storesNothing t ∧ s.charged t v.cycles ∧ s.quiet t ∧
      (∀ k, k < 8 → t.cpu.main.a.getLsbD k =
        (match op with
          | .and => s.cpu.main.a.getLsbD k && (s.sourceValue v).getLsbD k
          | .xor => s.cpu.main.a.getLsbD k != (s.sourceValue v).getLsbD k
          | _ => s.cpu.main.a.getLsbD k || (s.sourceValue v).getLsbD k)) ∧
      IsValueFlags t.cpu.main.f t.cpu.main.a (decide (op = .and)) ∧ t.cpu.main.f.c = false

/-- After `ADD`, `ADC`, `SUB`, `SBC` and `CP` on each source, PV says exactly that the signed result does not fit in eight bits, and
C exactly that the unsigned one does not. -/
def Obligations.OverflowIsSigned : Prop :=
  ∀ (v : AluSource) (s : State) (op : AluOp) (c : Nat),
    let a := s.cpu.main.a
    let b := s.sourceValue v
    (op = .add ∧ c = 0 ∨ op = .adc ∧ c = s.cpu.main.f.c.toNat →
      ∃ t, exec (v.instr op) s = .next t ∧
        (t.cpu.main.f.pv = true ↔ a.toInt + b.toInt + c < -128 ∨ 127 < a.toInt + b.toInt + c) ∧
        (t.cpu.main.f.pv = false → t.cpu.main.a.toInt = a.toInt + b.toInt + c) ∧
        (t.cpu.main.a.toNat : Int) = a.toNat + b.toNat + c - 256 * t.cpu.main.f.c.toNat) ∧
    (op = .sub ∧ c = 0 ∨ op = .sbc ∧ c = s.cpu.main.f.c.toNat →
      ∃ t, exec (v.instr op) s = .next t ∧
        (t.cpu.main.f.pv = true ↔ a.toInt - b.toInt - c < -128 ∨ 127 < a.toInt - b.toInt - c) ∧
        (t.cpu.main.f.pv = false → t.cpu.main.a.toInt = a.toInt - b.toInt - c) ∧
        (t.cpu.main.a.toNat : Int) = a.toNat - b.toNat - c + 256 * t.cpu.main.f.c.toNat) ∧
    (∃ t, exec (v.instr .cp) s = .next t ∧
      (t.cpu.main.f.pv = true ↔ a.toInt - b.toInt < -128 ∨ 127 < a.toInt - b.toInt) ∧
      (t.cpu.main.f.c = true ↔ a.toNat < b.toNat) ∧ (t.cpu.main.f.z = true ↔ a = b))

/-- `INC m` and `DEC m` on each place: one read and one write at the same place, C unchanged. -/
def Obligations.IncrementByte : Prop :=
  ∀ (p : Place) (s : State),
    let v := s.valueAt p
    (encode p.inc = p.mainBytes (opByte 0 p.code 4) ∧
      ∃ t, exec p.inc s = .next t ∧ s.onlyMain t (encode p.inc).length ∧ s.putsAt t p (v + 1) ∧
        t.cpu.main.f.s = (v + 1).getLsbD 7 ∧ t.cpu.main.f.z = decide (v = 0xFF) ∧
        t.cpu.main.f.h = decide (v.toNat % 16 = 15) ∧ t.cpu.main.f.pv = decide (v = 0x7F) ∧
        t.cpu.main.f.n = false ∧ t.cpu.main.f.c = s.cpu.main.f.c ∧ s.charged t p.stepCycles ∧ s.quiet t) ∧
    (encode p.dec = p.mainBytes (opByte 0 p.code 5) ∧
      ∃ t, exec p.dec s = .next t ∧ s.onlyMain t (encode p.dec).length ∧ s.putsAt t p (v - 1) ∧
        t.cpu.main.f.s = (v - 1).getLsbD 7 ∧ t.cpu.main.f.z = decide (v = 0x01) ∧
        t.cpu.main.f.h = decide (v.toNat % 16 = 0) ∧ t.cpu.main.f.pv = decide (v = 0x80) ∧
        t.cpu.main.f.n = true ∧ t.cpu.main.f.c = s.cpu.main.f.c ∧ s.charged t p.stepCycles ∧ s.quiet t)

/-! ### CPU control -/

/-- `DAA`, `CPL`, `NEG`, `CCF` and `SCF`. `DAA`: the correction and its flags, from A, H, N and C before it, for every A; C is never
cleared, N is unchanged. -/
def Obligations.AccumulatorAdjustments : Prop :=
  (encode .daa = [0x27] ∧
  ∀ s : State,
    let a := s.cpu.main.a
    let f := s.cpu.main.f
    let corr := (if f.h = true ∨ a.toNat % 16 > 9 then 0x06 else 0) + (if f.c = true ∨ a.toNat > 0x99 then 0x60 else 0)
    ∃ t, exec .daa s = .next t ∧ s.onlyMain t 1 ∧ s.storesNothing t ∧ s.charged t 4 ∧ s.quiet t ∧
      s.onlyReg t .a (BitVec.ofInt 8 (if f.n = true then (a.toNat : Int) - corr else a.toNat + corr)) ∧
      t.cpu.main.f.s = t.cpu.main.a.getLsbD 7 ∧ t.cpu.main.f.z = decide (t.cpu.main.a = 0) ∧
      t.cpu.main.f.h = (if f.n = true then decide (f.h = true ∧ a.toNat % 16 < 6) else decide (a.toNat % 16 > 9)) ∧
      IsParity t.cpu.main.f.pv t.cpu.main.a ∧ t.cpu.main.f.n = f.n ∧
      t.cpu.main.f.c = decide (f.c = true ∨ a.toNat > 0x99)) ∧
  (∀ s : State,
    let f := s.cpu.main.f
    (encode .cpl = [0x2F] ∧
      ∃ t, exec .cpl s = .next t ∧ s.onlyMain t 1 ∧ s.onlyReg t .a (~~~ s.cpu.main.a) ∧ t.cpu.main.f.h = true ∧
        t.cpu.main.f.n = true ∧ t.cpu.main.f.c = f.c ∧ f.keepsSzp t.cpu.main.f ∧
        s.storesNothing t ∧ s.charged t 4 ∧ s.quiet t) ∧
    (encode .neg = [0xED, 0x44] ∧
      ∃ t, exec .neg s = .next t ∧ s.onlyMain t 2 ∧ (∀ q, q ≠ .a → t.reg8 q = s.reg8 q) ∧
        IsSub8 t.cpu.main.f t.cpu.main.a 0 s.cpu.main.a false ∧
        t.cpu.main.f.pv = decide (s.cpu.main.a = 0x80) ∧ t.cpu.main.f.c = decide (s.cpu.main.a ≠ 0) ∧
        s.storesNothing t ∧ s.charged t 8 ∧ s.quiet t) ∧
    (encode .ccf = [0x3F] ∧
      ∃ t, exec .ccf s = .next t ∧ s.onlyMain t 1 ∧ s.sameRegs t ∧ t.cpu.main.f.h = f.c ∧ t.cpu.main.f.c = !f.c ∧
        t.cpu.main.f.n = false ∧ f.keepsSzp t.cpu.main.f ∧ s.storesNothing t ∧ s.charged t 4 ∧ s.quiet t) ∧
    (encode .scf = [0x37] ∧
      ∃ t, exec .scf s = .next t ∧ s.onlyMain t 1 ∧ s.sameRegs t ∧ t.cpu.main.f.h = false ∧ t.cpu.main.f.c = true ∧
        t.cpu.main.f.n = false ∧ f.keepsSzp t.cpu.main.f ∧ s.storesNothing t ∧ s.charged t 4 ∧ s.quiet t))

/-- `DAA` makes BCD addition right: after `ADD A,B` of two BCD bytes, A holds the two low decimal digits of the sum and C its
hundreds. -/
def Obligations.DecimalAddition : Prop :=
  ∀ (s t u : State) (x y : Nat), x < 100 → y < 100 →
    s.cpu.main.a = BitVec.ofNat 8 (16 * (x / 10) + x % 10) → s.cpu.main.b = BitVec.ofNat 8 (16 * (y / 10) + y % 10) →
    exec (.aluReg .add .b) s = .next t → exec .daa t = .next u →
      u.cpu.main.a = BitVec.ofNat 8 (16 * ((x + y) % 100 / 10) + (x + y) % 10) ∧
      u.cpu.main.f.c = decide (100 ≤ x + y)

/-- `NOP`, `HALT`, `DI`, `EI` and `IM`: what each writes of the interrupt state, with PC after the instruction. -/
def Obligations.CpuControlInstructions : Prop :=
  ∀ s : State,
    (encode .nop = [0x00] ∧
      ∃ t, exec .nop s = .next t ∧ t.cpu = s.cpu.past 1 ∧ s.storesNothing t ∧ s.charged t 4 ∧ s.quiet t) ∧
    (encode .halt = [0x76] ∧
      ∃ t, exec .halt s = .next t ∧ t.cpu = { s.cpu.past 1 with halted := true } ∧
        s.storesNothing t ∧ s.charged t 4 ∧ s.quiet t) ∧
    (encode .di = [0xF3] ∧
      ∃ t, exec .di s = .next t ∧ t.cpu = { s.cpu.past 1 with iff1 := false, iff2 := false } ∧
        s.storesNothing t ∧ s.charged t 4 ∧ s.quiet t) ∧
    (encode .ei = [0xFB] ∧
      ∃ t, exec .ei s = .next t ∧ t.cpu = { s.cpu.past 1 with iff1 := true, iff2 := true, eiDelay := true } ∧
        s.storesNothing t ∧ s.charged t 4 ∧ s.quiet t) ∧
    (encode .im0 = [0xED, 0x46] ∧
      ∃ t, exec .im0 s = .next t ∧ t.cpu = { s.cpu.past 2 with im := .im0 } ∧
        s.storesNothing t ∧ s.charged t 8 ∧ s.quiet t) ∧
    (encode .im1 = [0xED, 0x56] ∧
      ∃ t, exec .im1 s = .next t ∧ t.cpu = { s.cpu.past 2 with im := .im1 } ∧
        s.storesNothing t ∧ s.charged t 8 ∧ s.quiet t) ∧
    (encode .im2 = [0xED, 0x5E] ∧
      ∃ t, exec .im2 s = .next t ∧ t.cpu = { s.cpu.past 2 with im := .im2 } ∧
        s.storesNothing t ∧ s.charged t 8 ∧ s.quiet t)

/-- `PATCH`: the host's actions are done in order on the machine with PC past the trap, and the configured cost is charged
whatever they are; with no action it is a two-byte no-op. The host acts as log 8 says, and a
value of `eiDelay` it writes does not outlast the step (log 18). -/
def Obligations.PatchTrap : Prop :=
  encode .patch = [0xED, 0xFE] ∧
  ∀ s : State,
    let regs : Cpu := { s.cpu with pc := s.cpu.pc + 2 }
    let actions := (s.hostReply (.patch regs)).actions
    let done := actions.foldl State.act { s with cpu := regs }
    ∃ t, exec .patch s = .next t ∧ t.cpu = { done.cpu with eiDelay := false } ∧ t.sameMemory done ∧
      s.charged t s.cfg.patchCycles ∧ s.called t (.patch regs) ∧
      (actions = [] → t.cpu = s.cpu.past 2 ∧ s.storesNothing t)

/-! ### 16-bit arithmetic -/

/-- `ADD HL,ss`, `ADD IX,pp` and `ADD IY,rr`: H from bit 11, C from bit 15, S, Z and PV unchanged; under a prefix HL is read
as the index register itself. -/
def Obligations.AddWords : Prop :=
  ∀ (s : State) (p : Pair),
    let f := s.cpu.main.f
    (encode (.addHlPair p) = [opByte 0 (2 * pairCode p + 1) 1] ∧
      ∃ t, exec (.addHlPair p) s = .next t ∧ s.onlyMain t 1 ∧ t.hl = s.hl + s.pair p ∧ t.bc = s.bc ∧ t.de = s.de ∧
        t.cpu.main.a = s.cpu.main.a ∧ f.keepsSzp t.cpu.main.f ∧ t.cpu.main.f.n = false ∧
        t.cpu.main.f.h = decide (s.hl.toNat % 4096 + (s.pair p).toNat % 4096 > 0xFFF) ∧
        t.cpu.main.f.c = decide (s.hl.toNat + (s.pair p).toNat > 0xFFFF) ∧
        s.storesNothing t ∧ s.charged t 11 ∧ s.quiet t) ∧
    (∀ x : IndexReg,
      let b := if p = .hl then s.index x else s.pair p
      encode (.addIndexPair x p) = [indexCode x, opByte 0 (2 * pairCode p + 1) 1] ∧
      ∃ t, exec (.addIndexPair x p) s = .next t ∧
        t.cpu = { (s.setIndex x (s.index x + b)).cpu.past 2 with main := { s.cpu.main with f := t.cpu.main.f } } ∧
        f.keepsSzp t.cpu.main.f ∧ t.cpu.main.f.n = false ∧
        t.cpu.main.f.h = decide ((s.index x).toNat % 4096 + b.toNat % 4096 > 0xFFF) ∧
        t.cpu.main.f.c = decide ((s.index x).toNat + b.toNat > 0xFFFF) ∧
        s.storesNothing t ∧ s.charged t 15 ∧ s.quiet t)

/-- `ADC HL,ss` and `SBC HL,ss`: the 16-bit result and all its flags, with the carry before. -/
def Obligations.CarryWords : Prop :=
  ∀ (s : State) (p : Pair),
    let a := s.hl
    let b := s.pair p
    let c := s.cpu.main.f.c.toNat
    (encode (.adcHlPair p) = [0xED, opByte 1 (2 * pairCode p + 1) 2] ∧
      ∃ t, exec (.adcHlPair p) s = .next t ∧ s.onlyMain t 2 ∧ t.hl = BitVec.ofNat 16 (a.toNat + b.toNat + c) ∧
        t.bc = s.bc ∧ t.de = s.de ∧ t.cpu.main.a = s.cpu.main.a ∧
        t.cpu.main.f.s = t.hl.getLsbD 15 ∧ t.cpu.main.f.z = decide (t.hl = 0) ∧
        t.cpu.main.f.h = decide (a.toNat % 4096 + b.toNat % 4096 + c > 0xFFF) ∧
        t.cpu.main.f.pv = (decide (a.getLsbD 15 = b.getLsbD 15) && decide (t.hl.getLsbD 15 ≠ a.getLsbD 15)) ∧
        t.cpu.main.f.n = false ∧ t.cpu.main.f.c = decide (a.toNat + b.toNat + c > 0xFFFF) ∧
        s.storesNothing t ∧ s.charged t 15 ∧ s.quiet t) ∧
    (encode (.sbcHlPair p) = [0xED, opByte 1 (2 * pairCode p) 2] ∧
      ∃ t, exec (.sbcHlPair p) s = .next t ∧ s.onlyMain t 2 ∧
        t.hl = BitVec.ofInt 16 ((a.toNat : Int) - b.toNat - c) ∧
        t.bc = s.bc ∧ t.de = s.de ∧ t.cpu.main.a = s.cpu.main.a ∧
        t.cpu.main.f.s = t.hl.getLsbD 15 ∧ t.cpu.main.f.z = decide (t.hl = 0) ∧
        t.cpu.main.f.h = decide (a.toNat % 4096 < b.toNat % 4096 + c) ∧
        t.cpu.main.f.pv = (decide (a.getLsbD 15 ≠ b.getLsbD 15) && decide (t.hl.getLsbD 15 ≠ a.getLsbD 15)) ∧
        t.cpu.main.f.n = true ∧ t.cpu.main.f.c = decide (a.toNat < b.toNat + c) ∧
        s.storesNothing t ∧ s.charged t 15 ∧ s.quiet t)

/-- The 16-bit `INC` and `DEC`: modulo 2^16, and no flag. -/
def Obligations.CountWords : Prop :=
  ∀ s : State,
    (∀ p : Pair, encode (.incPair p) = [opByte 0 (2 * pairCode p) 3] ∧
      ∃ t, exec (.incPair p) s = .next t ∧ t.cpu = (s.setPair p (s.pair p + 1)).cpu.past 1 ∧
        t.pair p = s.pair p + 1 ∧ (∀ q, q ≠ p → t.pair q = s.pair q) ∧
        t.cpu.main.a = s.cpu.main.a ∧ s.sameFlags t ∧ s.storesNothing t ∧ s.charged t 6 ∧ s.quiet t) ∧
    (∀ p : Pair, encode (.decPair p) = [opByte 0 (2 * pairCode p + 1) 3] ∧
      ∃ t, exec (.decPair p) s = .next t ∧ t.cpu = (s.setPair p (s.pair p - 1)).cpu.past 1 ∧
        t.pair p = s.pair p - 1 ∧ (∀ q, q ≠ p → t.pair q = s.pair q) ∧
        t.cpu.main.a = s.cpu.main.a ∧ s.sameFlags t ∧ s.storesNothing t ∧ s.charged t 6 ∧ s.quiet t) ∧
    (∀ x : IndexReg, encode (.incIndex x) = [indexCode x, 0x23] ∧
      ∃ t, exec (.incIndex x) s = .next t ∧ t.cpu = (s.setIndex x (s.index x + 1)).cpu.past 2 ∧
        t.index x = s.index x + 1 ∧ (∀ y, y ≠ x → t.index y = s.index y) ∧
        s.sameRegs t ∧ s.sameFlags t ∧ s.storesNothing t ∧ s.charged t 10 ∧ s.quiet t) ∧
    (∀ x : IndexReg, encode (.decIndex x) = [indexCode x, 0x2B] ∧
      ∃ t, exec (.decIndex x) s = .next t ∧ t.cpu = (s.setIndex x (s.index x - 1)).cpu.past 2 ∧
        t.index x = s.index x - 1 ∧ (∀ y, y ≠ x → t.index y = s.index y) ∧
        s.sameRegs t ∧ s.sameFlags t ∧ s.storesNothing t ∧ s.charged t 10 ∧ s.quiet t)

/-! ### Rotates, shifts and bits -/

/-- `RLCA`, `RLA`, `RRCA` and `RRA`: bit by bit, with C the bit moved out and S, Z and PV unchanged. -/
def Obligations.RotateAccumulator : Prop :=
  ∀ (s : State) (i : Instr) (op : RotOp),
    (i, op) ∈ ([(.rlca, .rlc), (.rla, .rl), (.rrca, .rrc), (.rra, .rr)] : List (Instr × RotOp)) →
      encode i = [opByte 0 (rotCode op) 7] ∧
      ∃ t, exec i s = .next t ∧ s.onlyMain t 1 ∧ (∀ q, q ≠ .a → t.reg8 q = s.reg8 q) ∧
        (∀ k, k < 8 → t.cpu.main.a.getLsbD k = rotatedBit op s.cpu.main.a s.cpu.main.f.c k) ∧
        t.cpu.main.f.c = rotatedOut op s.cpu.main.a ∧ t.cpu.main.f.h = false ∧ t.cpu.main.f.n = false ∧
        s.cpu.main.f.keepsSzp t.cpu.main.f ∧ s.storesNothing t ∧ s.charged t 4 ∧ s.quiet t

/-- The CB-page rotates and shifts on each place: bit by bit, with the CB flags of the result. -/
def Obligations.RotateAndShift : Prop :=
  ∀ (op : RotOp) (p : Place) (s : State),
    encode (p.rot op) = p.cbBytes (opByte 0 (rotCode op) p.code) ∧
    ∃ t v, exec (p.rot op) s = .next t ∧ s.onlyMain t (encode (p.rot op)).length ∧ s.putsAt t p v ∧
      (∀ k, k < 8 → v.getLsbD k = rotatedBit op (s.valueAt p) s.cpu.main.f.c k) ∧
      IsValueFlags t.cpu.main.f v false ∧ t.cpu.main.f.c = rotatedOut op (s.valueAt p) ∧
      s.charged t p.cbCycles ∧ s.quiet t

/-- `RLD` and `RRD`: the digits move between A and the byte at HL, A keeps its high digit, the flags follow the new A, and C
is unchanged. -/
def Obligations.DigitRotates : Prop :=
  ∀ s : State,
    let a := s.cpu.main.a.toNat
    let m := (s.readByte s.hl).toNat
    (encode .rld = [0xED, 0x6F] ∧
      ∃ t, exec .rld s = .next t ∧ s.onlyMain t 2 ∧ s.onlyReg t .a (BitVec.ofNat 8 (16 * (a / 16) + m / 16)) ∧
        s.storesByte t s.hl (BitVec.ofNat 8 (16 * (m % 16) + a % 16)) ∧
        IsValueFlags t.cpu.main.f t.cpu.main.a false ∧ t.cpu.main.f.c = s.cpu.main.f.c ∧ s.charged t 18 ∧ s.quiet t) ∧
    (encode .rrd = [0xED, 0x67] ∧
      ∃ t, exec .rrd s = .next t ∧ s.onlyMain t 2 ∧ s.onlyReg t .a (BitVec.ofNat 8 (16 * (a / 16) + m % 16)) ∧
        s.storesByte t s.hl (BitVec.ofNat 8 (16 * (a % 16) + m / 16)) ∧
        IsValueFlags t.cpu.main.f t.cpu.main.a false ∧ t.cpu.main.f.c = s.cpu.main.f.c ∧ s.charged t 18 ∧ s.quiet t)

/-- `BIT`, `SET` and `RES` on each place. `BIT` writes Z, H and N, and only reads; S and PV are draws. `SET` and `RES` write
the byte with that one bit changed, and no flag. -/
def Obligations.BitInstructions : Prop :=
  ∀ (b : Fin 8) (p : Place) (s : State),
    (encode (p.bit b) = p.cbBytes (opByte 1 b.val p.code) ∧
      ∃ t, exec (p.bit b) s = .next t ∧ s.onlyMain t (encode (p.bit b)).length ∧ s.sameRegs t ∧
        t.cpu.main.f.z = !(s.valueAt p).getLsbD b.val ∧ t.cpu.main.f.h = true ∧ t.cpu.main.f.n = false ∧
        t.cpu.main.f.c = s.cpu.main.f.c ∧ s.storesNothing t ∧ s.charged t p.bitCycles ∧ s.quiet t) ∧
    (encode (p.set b) = p.cbBytes (opByte 3 b.val p.code) ∧
      ∃ t v, exec (p.set b) s = .next t ∧ s.onlyMain t (encode (p.set b)).length ∧ s.putsAt t p v ∧ s.sameFlags t ∧
        (∀ k, k < 8 → v.getLsbD k = if k = b.val then true else (s.valueAt p).getLsbD k) ∧
        s.charged t p.cbCycles ∧ s.quiet t) ∧
    (encode (p.res b) = p.cbBytes (opByte 2 b.val p.code) ∧
      ∃ t v, exec (p.res b) s = .next t ∧ s.onlyMain t (encode (p.res b)).length ∧ s.putsAt t p v ∧ s.sameFlags t ∧
        (∀ k, k < 8 → v.getLsbD k = if k = b.val then false else (s.valueAt p).getLsbD k) ∧
        s.charged t p.cbCycles ∧ s.quiet t)

/-! ### Jumps, calls, returns and restarts -/

/-- The jumps, conditional and not, and `DJNZ`: PC, the cost of each path, and no flag or memory. -/
def Obligations.Jumps : Prop :=
  ∀ (s : State) (nn : Word) (e : Byte) (cc : Cond) (jc : JrCond) (x : IndexReg),
    (encode (.jpNn nn) = [0xC3, lowByte nn, highByte nn] ∧
      ∃ t, exec (.jpNn nn) s = .next t ∧ t.cpu = s.cpu.jumped nn ∧ s.storesNothing t ∧ s.charged t 10 ∧ s.quiet t) ∧
    (encode (.jpIf cc nn) = [opByte 3 (condCode cc) 2, lowByte nn, highByte nn] ∧
      ∃ t, exec (.jpIf cc nn) s = .next t ∧ (condHolds s.cpu.main.f cc → t.cpu = s.cpu.jumped nn) ∧
        (¬ condHolds s.cpu.main.f cc → t.cpu = s.cpu.past 3) ∧ s.storesNothing t ∧ s.charged t 10 ∧ s.quiet t) ∧
    (encode (.jrE e) = [0x18, e] ∧
      ∃ t, exec (.jrE e) s = .next t ∧ t.cpu = s.cpu.jumped (s.cpu.pc + 2 + e.signExtend 16) ∧
        s.storesNothing t ∧ s.charged t 12 ∧ s.quiet t) ∧
    (encode (.jrIf jc e) = [opByte 0 (condCode jc.toCond + 4) 0, e] ∧
      ∃ t, exec (.jrIf jc e) s = .next t ∧ s.storesNothing t ∧ s.quiet t ∧
        (condHolds s.cpu.main.f jc.toCond →
          t.cpu = s.cpu.jumped (s.cpu.pc + 2 + e.signExtend 16) ∧ s.charged t 12) ∧
        (¬ condHolds s.cpu.main.f jc.toCond → t.cpu = s.cpu.past 2 ∧ s.charged t 7)) ∧
    (encode .jpHl = [0xE9] ∧
      ∃ t, exec .jpHl s = .next t ∧ t.cpu = s.cpu.jumped s.hl ∧ s.storesNothing t ∧ s.charged t 4 ∧ s.quiet t) ∧
    (encode (.jpIndex x) = [indexCode x, 0xE9] ∧
      ∃ t, exec (.jpIndex x) s = .next t ∧ t.cpu = s.cpu.jumped (s.index x) ∧
        s.storesNothing t ∧ s.charged t 8 ∧ s.quiet t) ∧
    (encode (.djnzE e) = [0x10, e] ∧
      ∃ t, exec (.djnzE e) s = .next t ∧ s.storesNothing t ∧ s.quiet t ∧
        (s.cpu.main.b ≠ 1 →
          t.cpu = { s.cpu.jumped (s.cpu.pc + 2 + e.signExtend 16) with
            main := { s.cpu.main with b := s.cpu.main.b - 1 } } ∧ s.charged t 13) ∧
        (s.cpu.main.b = 1 →
          t.cpu = { s.cpu.past 2 with main := { s.cpu.main with b := 0 } } ∧ s.charged t 8))

/-- The calls and restarts: the address after the instruction is pushed, and PC is the target; a call not taken writes
nothing. -/
def Obligations.CallsAndRestarts : Prop :=
  ∀ (s : State) (nn : Word) (cc : Cond) (k : Fin 8),
    (encode (.callNn nn) = [0xCD, lowByte nn, highByte nn] ∧
      ∃ t, exec (.callNn nn) s = .next t ∧ t.cpu = { s.cpu.jumped nn with sp := s.cpu.sp - 2 } ∧
        s.pushed t (s.cpu.pc + 3) ∧ s.charged t 17 ∧ s.quiet t) ∧
    (encode (.callIf cc nn) = [opByte 3 (condCode cc) 4, lowByte nn, highByte nn] ∧
      ∃ t, exec (.callIf cc nn) s = .next t ∧ s.quiet t ∧
        (condHolds s.cpu.main.f cc → t.cpu = { s.cpu.jumped nn with sp := s.cpu.sp - 2 } ∧
          s.pushed t (s.cpu.pc + 3) ∧ s.charged t 17) ∧
        (¬ condHolds s.cpu.main.f cc → t.cpu = s.cpu.past 3 ∧ s.storesNothing t ∧ s.charged t 10)) ∧
    (encode (.rst k) = [opByte 3 k.val 7] ∧
      ∃ t, exec (.rst k) s = .next t ∧
        t.cpu = { s.cpu.jumped (BitVec.ofNat 16 (8 * k.val)) with sp := s.cpu.sp - 2 } ∧
        s.pushed t (s.cpu.pc + 1) ∧ s.charged t 11 ∧ s.quiet t)

/-- The returns: PC is popped and SP goes up by 2; `RETI` and `RETN` copy IFF2 to IFF1 and clear `inService`, and `RETI` alone
calls the host, after the pop. -/
def Obligations.Returns : Prop :=
  ∀ (s : State) (cc : Cond),
    let back := s.cpu.jumped (joinBytes (s.readByte (s.cpu.sp + 1)) (s.readByte s.cpu.sp))
    (encode .ret = [0xC9] ∧
      ∃ t, exec .ret s = .next t ∧ t.cpu = { back with sp := s.cpu.sp + 2 } ∧
        s.storesNothing t ∧ s.charged t 10 ∧ s.quiet t) ∧
    (encode (.retIf cc) = [opByte 3 (condCode cc) 0] ∧
      ∃ t, exec (.retIf cc) s = .next t ∧ s.storesNothing t ∧ s.quiet t ∧
        (condHolds s.cpu.main.f cc → t.cpu = { back with sp := s.cpu.sp + 2 } ∧ s.charged t 11) ∧
        (¬ condHolds s.cpu.main.f cc → t.cpu = s.cpu.past 1 ∧ s.charged t 5)) ∧
    (encode .retn = [0xED, 0x45] ∧
      ∃ t, exec .retn s = .next t ∧
        t.cpu = { back with sp := s.cpu.sp + 2, iff1 := s.cpu.iff2, inService := false } ∧
        s.storesNothing t ∧ s.charged t 14 ∧ s.quiet t) ∧
    (encode .reti = [0xED, 0x4D] ∧
      ∃ t, exec .reti s = .next t ∧
        t.cpu = { back with sp := s.cpu.sp + 2, iff1 := s.cpu.iff2, inService := false } ∧
        s.storesNothing t ∧ s.charged t 14 ∧
        s.called t (.retiSignal { t.cpu with eiDelay := s.cpu.eiDelay }))

/-! ### Input and output -/

/-- `IN A,(n)` and `IN r,(C)`: the port is `A ++ n` or `BC`, one access is made, and the flags of `IN r,(C)` are those of the
byte. A port with no handler under the strict policy is the fault, whose record holds the address of the instruction, the
direction, the port and the state before the step. -/
def Obligations.InputForms : Prop :=
  ∀ (s : State),
    (∀ n : Byte, encode (.inAPortN n) = [0xDB, n] ∧
      (n ∈ s.cfg.portMapIn ∨ s.cfg.portPolicy = .permissive →
        ∃ t v, exec (.inAPortN n) s = .next t ∧ s.readsPort t 2 (joinBytes s.cpu.main.a n) v ∧ s.onlyMain t 2 ∧
          s.onlyReg t .a v ∧ s.sameFlags t ∧ s.storesNothing t ∧ s.charged t 11) ∧
      (n ∉ s.cfg.portMapIn → s.cfg.portPolicy = .strict →
        exec (.inAPortN n) s = .fault (.badPort s.cpu.pc .input (joinBytes s.cpu.main.a n) none s))) ∧
    (∀ r : Reg8, encode (.inRegPortC r) = [0xED, opByte 1 (regCode r) 0] ∧
      (s.cpu.main.c ∈ s.cfg.portMapIn ∨ s.cfg.portPolicy = .permissive →
        ∃ t v, exec (.inRegPortC r) s = .next t ∧ s.readsPort t 2 s.bc v ∧ s.onlyMain t 2 ∧ s.onlyReg t r v ∧
          IsValueFlags t.cpu.main.f v false ∧ t.cpu.main.f.c = s.cpu.main.f.c ∧ s.storesNothing t ∧ s.charged t 12) ∧
      (s.cpu.main.c ∉ s.cfg.portMapIn → s.cfg.portPolicy = .strict →
        exec (.inRegPortC r) s = .fault (.badPort s.cpu.pc .input s.bc none s)))

/-- `OUT (n),A` and `OUT (C),r`: the port is `A ++ n` or `BC`; at the banking port the write is `setIoByte` and the host is not
called. A port with no handler under the strict policy is the fault, whose record also holds the value. -/
def Obligations.OutputForms : Prop :=
  ∀ (s : State),
    (∀ n : Byte, encode (.outPortNA n) = [0xD3, n] ∧
      (n = s.cfg.ioBytePort ∨ n ∈ s.cfg.portMapOut ∨ s.cfg.portPolicy = .permissive →
        ∃ t, exec (.outPortNA n) s = .next t ∧ t.cpu = s.cpu.past 2 ∧ s.charged t 11 ∧
          s.writesPort t { s.cpu with pc := s.cpu.pc + 2 } (joinBytes s.cpu.main.a n) s.cpu.main.a) ∧
      (n ≠ s.cfg.ioBytePort → n ∉ s.cfg.portMapOut → s.cfg.portPolicy = .strict →
        exec (.outPortNA n) s =
          .fault (.badPort s.cpu.pc .output (joinBytes s.cpu.main.a n) (some s.cpu.main.a) s))) ∧
    (∀ r : Reg8, encode (.outPortCReg r) = [0xED, opByte 1 (regCode r) 1] ∧
      (s.cpu.main.c = s.cfg.ioBytePort ∨ s.cpu.main.c ∈ s.cfg.portMapOut ∨ s.cfg.portPolicy = .permissive →
        ∃ t, exec (.outPortCReg r) s = .next t ∧ t.cpu = s.cpu.past 2 ∧ s.charged t 12 ∧
          s.writesPort t { s.cpu with pc := s.cpu.pc + 2 } s.bc (s.reg8 r)) ∧
      (s.cpu.main.c ≠ s.cfg.ioBytePort → s.cpu.main.c ∉ s.cfg.portMapOut → s.cfg.portPolicy = .strict →
        exec (.outPortCReg r) s = .fault (.badPort s.cpu.pc .output s.bc (some (s.reg8 r)) s)))

/-- `INI`, `IND`, `INIR` and `INDR`: one iteration; the port is `BC` before the decrement, and S, H, PV and C are draws. A port
with no handler under the strict policy is the fault. -/
def Obligations.BlockInput : Prop :=
  encode .ini = [0xED, 0xA2] ∧ encode .inir = [0xED, 0xB2] ∧ encode .ind = [0xED, 0xAA] ∧ encode .indr = [0xED, 0xBA] ∧
  ∀ (s : State) (i : Instr) (move : Word) (repeats : Bool),
    (i, move, repeats) ∈ ([(.ini, 1, false), (.inir, 1, true), (.ind, -1, false), (.indr, -1, true)] :
      List (Instr × Word × Bool)) →
    (s.cpu.main.c ∈ s.cfg.portMapIn ∨ s.cfg.portPolicy = .permissive →
      ∃ t v, exec i s = .next t ∧ s.readsPort t 2 s.bc v ∧ s.storesByte t s.hl v ∧
        t.cpu.main.b = s.cpu.main.b - 1 ∧ t.hl = s.hl + move ∧ t.cpu.main.c = s.cpu.main.c ∧ t.de = s.de ∧
        t.cpu.main.a = s.cpu.main.a ∧ t.cpu.main.f.z = decide (s.cpu.main.b = 1) ∧ t.cpu.main.f.n = true ∧
        (repeats = true ∧ s.cpu.main.b ≠ 1 → s.onlyMain t 0 ∧ s.charged t 21) ∧
        (repeats = false ∨ s.cpu.main.b = 1 → s.onlyMain t 2 ∧ s.charged t 16)) ∧
    (s.cpu.main.c ∉ s.cfg.portMapIn → s.cfg.portPolicy = .strict →
      exec i s = .fault (.badPort s.cpu.pc .input s.bc none s))

/-- `OUTI`, `OUTD`, `OTIR` and `OTDR`: one iteration; the port is `BC` after the decrement, and the byte is read before the
access. A port with no handler under the strict policy is the fault. -/
def Obligations.BlockOutput : Prop :=
  encode .outi = [0xED, 0xA3] ∧ encode .otir = [0xED, 0xB3] ∧ encode .outd = [0xED, 0xAB] ∧ encode .otdr = [0xED, 0xBB] ∧
  ∀ (s : State) (i : Instr) (move : Word) (repeats : Bool),
    (i, move, repeats) ∈ ([(.outi, 1, false), (.otir, 1, true), (.outd, -1, false), (.otdr, -1, true)] :
      List (Instr × Word × Bool)) →
    (s.cpu.main.c = s.cfg.ioBytePort ∨ s.cpu.main.c ∈ s.cfg.portMapOut ∨ s.cfg.portPolicy = .permissive →
      ∃ t, exec i s = .next t ∧
        s.writesPort t
          { s.cpu with pc := s.cpu.pc + 2, main := { s.cpu.main with b := s.cpu.main.b - 1 } }
          (joinBytes (s.cpu.main.b - 1) s.cpu.main.c) (s.readByte s.hl) ∧
        t.cpu.main.b = s.cpu.main.b - 1 ∧ t.hl = s.hl + move ∧ t.cpu.main.c = s.cpu.main.c ∧ t.de = s.de ∧
        t.cpu.main.a = s.cpu.main.a ∧ t.cpu.main.f.z = decide (s.cpu.main.b = 1) ∧ t.cpu.main.f.n = true ∧
        (repeats = true ∧ s.cpu.main.b ≠ 1 → s.onlyMain t 0 ∧ s.charged t 21) ∧
        (repeats = false ∨ s.cpu.main.b = 1 → s.onlyMain t 2 ∧ s.charged t 16)) ∧
    (s.cpu.main.c ≠ s.cfg.ioBytePort → s.cpu.main.c ∉ s.cfg.portMapOut → s.cfg.portPolicy = .strict →
      exec i s = .fault (.badPort s.cpu.pc .output (joinBytes (s.cpu.main.b - 1) s.cpu.main.c)
        (some (s.readByte s.hl)) s))
end

