-- ==== Sys2Proof/Laws/State.lean ====
section
/-! SUPPORT. For each update of the state, what each field and each read is after it: every later proof rewrites with these
and unfolds no record update. -/

namespace Sys2Proof.Machine

/-! ### `setPc` -/

@[simp] theorem State.setPc_cpu (s : State) (v : Word) : (s.setPc v).cpu = { s.cpu with pc := v } := rfl

@[simp] theorem State.setPc_intPending (s : State) (v : Word) : (s.setPc v).intPending = s.intPending := rfl

@[simp] theorem State.setPc_nmiPending (s : State) (v : Word) : (s.setPc v).nmiPending = s.nmiPending := rfl

@[simp] theorem State.setPc_iCount (s : State) (v : Word) : (s.setPc v).iCount = s.iCount := rfl

@[simp] theorem State.setPc_iPeriod (s : State) (v : Word) : (s.setPc v).iPeriod = s.iPeriod := rfl

@[simp] theorem State.setPc_iBackup (s : State) (v : Word) : (s.setPc v).iBackup = s.iBackup := rfl

@[simp] theorem State.setPc_iElapsed (s : State) (v : Word) : (s.setPc v).iElapsed = s.iElapsed := rfl

@[simp] theorem State.setPc_ioByte (s : State) (v : Word) : (s.setPc v).ioByte = s.ioByte := rfl

@[simp] theorem State.setPc_subPage (s : State) (v : Word) : (s.setPc v).subPage = s.subPage := rfl

@[simp] theorem State.setPc_romEnableMask (s : State) (v : Word) : (s.setPc v).romEnableMask = s.romEnableMask := rfl

@[simp] theorem State.setPc_ram (s : State) (v : Word) : (s.setPc v).ram = s.ram := rfl

@[simp] theorem State.setPc_monitorRom (s : State) (v : Word) : (s.setPc v).monitorRom = s.monitorRom := rfl

@[simp] theorem State.setPc_rom (s : State) (v : Word) : (s.setPc v).rom = s.rom := rfl

@[simp] theorem State.setPc_cfg (s : State) (v : Word) : (s.setPc v).cfg = s.cfg := rfl

@[simp] theorem State.setPc_draws (s : State) (v : Word) : (s.setPc v).draws = s.draws := rfl

@[simp] theorem State.setPc_hostReplies (s : State) (v : Word) : (s.setPc v).hostReplies = s.hostReplies := rfl

@[simp] theorem State.setPc_hostLog (s : State) (v : Word) : (s.setPc v).hostLog = s.hostLog := rfl

@[simp] theorem State.setPc_readByte (s : State) (v : Word) (y : Word) :
    (s.setPc v).readByte y = s.readByte y := rfl

/-! ### `setSp` -/

@[simp] theorem State.setSp_cpu (s : State) (v : Word) : (s.setSp v).cpu = { s.cpu with sp := v } := rfl

@[simp] theorem State.setSp_intPending (s : State) (v : Word) : (s.setSp v).intPending = s.intPending := rfl

@[simp] theorem State.setSp_nmiPending (s : State) (v : Word) : (s.setSp v).nmiPending = s.nmiPending := rfl

@[simp] theorem State.setSp_iCount (s : State) (v : Word) : (s.setSp v).iCount = s.iCount := rfl

@[simp] theorem State.setSp_iPeriod (s : State) (v : Word) : (s.setSp v).iPeriod = s.iPeriod := rfl

@[simp] theorem State.setSp_iBackup (s : State) (v : Word) : (s.setSp v).iBackup = s.iBackup := rfl

@[simp] theorem State.setSp_iElapsed (s : State) (v : Word) : (s.setSp v).iElapsed = s.iElapsed := rfl

@[simp] theorem State.setSp_ioByte (s : State) (v : Word) : (s.setSp v).ioByte = s.ioByte := rfl

@[simp] theorem State.setSp_subPage (s : State) (v : Word) : (s.setSp v).subPage = s.subPage := rfl

@[simp] theorem State.setSp_romEnableMask (s : State) (v : Word) : (s.setSp v).romEnableMask = s.romEnableMask := rfl

@[simp] theorem State.setSp_ram (s : State) (v : Word) : (s.setSp v).ram = s.ram := rfl

@[simp] theorem State.setSp_monitorRom (s : State) (v : Word) : (s.setSp v).monitorRom = s.monitorRom := rfl

@[simp] theorem State.setSp_rom (s : State) (v : Word) : (s.setSp v).rom = s.rom := rfl

@[simp] theorem State.setSp_cfg (s : State) (v : Word) : (s.setSp v).cfg = s.cfg := rfl

@[simp] theorem State.setSp_draws (s : State) (v : Word) : (s.setSp v).draws = s.draws := rfl

@[simp] theorem State.setSp_hostReplies (s : State) (v : Word) : (s.setSp v).hostReplies = s.hostReplies := rfl

@[simp] theorem State.setSp_hostLog (s : State) (v : Word) : (s.setSp v).hostLog = s.hostLog := rfl

@[simp] theorem State.setSp_readByte (s : State) (v : Word) (y : Word) :
    (s.setSp v).readByte y = s.readByte y := rfl

/-! ### `setMain` -/

@[simp] theorem State.setMain_cpu (s : State) (b : Bank) : (s.setMain b).cpu = { s.cpu with main := b } := rfl

@[simp] theorem State.setMain_intPending (s : State) (b : Bank) : (s.setMain b).intPending = s.intPending := rfl

@[simp] theorem State.setMain_nmiPending (s : State) (b : Bank) : (s.setMain b).nmiPending = s.nmiPending := rfl

@[simp] theorem State.setMain_iCount (s : State) (b : Bank) : (s.setMain b).iCount = s.iCount := rfl

@[simp] theorem State.setMain_iPeriod (s : State) (b : Bank) : (s.setMain b).iPeriod = s.iPeriod := rfl

@[simp] theorem State.setMain_iBackup (s : State) (b : Bank) : (s.setMain b).iBackup = s.iBackup := rfl

@[simp] theorem State.setMain_iElapsed (s : State) (b : Bank) : (s.setMain b).iElapsed = s.iElapsed := rfl

@[simp] theorem State.setMain_ioByte (s : State) (b : Bank) : (s.setMain b).ioByte = s.ioByte := rfl

@[simp] theorem State.setMain_subPage (s : State) (b : Bank) : (s.setMain b).subPage = s.subPage := rfl

@[simp] theorem State.setMain_romEnableMask (s : State) (b : Bank) : (s.setMain b).romEnableMask = s.romEnableMask := rfl

@[simp] theorem State.setMain_ram (s : State) (b : Bank) : (s.setMain b).ram = s.ram := rfl

@[simp] theorem State.setMain_monitorRom (s : State) (b : Bank) : (s.setMain b).monitorRom = s.monitorRom := rfl

@[simp] theorem State.setMain_rom (s : State) (b : Bank) : (s.setMain b).rom = s.rom := rfl

@[simp] theorem State.setMain_cfg (s : State) (b : Bank) : (s.setMain b).cfg = s.cfg := rfl

@[simp] theorem State.setMain_draws (s : State) (b : Bank) : (s.setMain b).draws = s.draws := rfl

@[simp] theorem State.setMain_hostReplies (s : State) (b : Bank) : (s.setMain b).hostReplies = s.hostReplies := rfl

@[simp] theorem State.setMain_hostLog (s : State) (b : Bank) : (s.setMain b).hostLog = s.hostLog := rfl

@[simp] theorem State.setMain_readByte (s : State) (b : Bank) (y : Word) :
    (s.setMain b).readByte y = s.readByte y := rfl

/-! ### `setA` -/

@[simp] theorem State.setA_cpu (s : State) (v : Byte) : (s.setA v).cpu = { s.cpu with main := { s.cpu.main with a := v } } := rfl

@[simp] theorem State.setA_intPending (s : State) (v : Byte) : (s.setA v).intPending = s.intPending := rfl

@[simp] theorem State.setA_nmiPending (s : State) (v : Byte) : (s.setA v).nmiPending = s.nmiPending := rfl

@[simp] theorem State.setA_iCount (s : State) (v : Byte) : (s.setA v).iCount = s.iCount := rfl

@[simp] theorem State.setA_iPeriod (s : State) (v : Byte) : (s.setA v).iPeriod = s.iPeriod := rfl

@[simp] theorem State.setA_iBackup (s : State) (v : Byte) : (s.setA v).iBackup = s.iBackup := rfl

@[simp] theorem State.setA_iElapsed (s : State) (v : Byte) : (s.setA v).iElapsed = s.iElapsed := rfl

@[simp] theorem State.setA_ioByte (s : State) (v : Byte) : (s.setA v).ioByte = s.ioByte := rfl

@[simp] theorem State.setA_subPage (s : State) (v : Byte) : (s.setA v).subPage = s.subPage := rfl

@[simp] theorem State.setA_romEnableMask (s : State) (v : Byte) : (s.setA v).romEnableMask = s.romEnableMask := rfl

@[simp] theorem State.setA_ram (s : State) (v : Byte) : (s.setA v).ram = s.ram := rfl

@[simp] theorem State.setA_monitorRom (s : State) (v : Byte) : (s.setA v).monitorRom = s.monitorRom := rfl

@[simp] theorem State.setA_rom (s : State) (v : Byte) : (s.setA v).rom = s.rom := rfl

@[simp] theorem State.setA_cfg (s : State) (v : Byte) : (s.setA v).cfg = s.cfg := rfl

@[simp] theorem State.setA_draws (s : State) (v : Byte) : (s.setA v).draws = s.draws := rfl

@[simp] theorem State.setA_hostReplies (s : State) (v : Byte) : (s.setA v).hostReplies = s.hostReplies := rfl

@[simp] theorem State.setA_hostLog (s : State) (v : Byte) : (s.setA v).hostLog = s.hostLog := rfl

@[simp] theorem State.setA_readByte (s : State) (v : Byte) (y : Word) :
    (s.setA v).readByte y = s.readByte y := rfl

/-! ### `setB` -/

@[simp] theorem State.setB_cpu (s : State) (v : Byte) : (s.setB v).cpu = { s.cpu with main := { s.cpu.main with b := v } } := rfl

@[simp] theorem State.setB_intPending (s : State) (v : Byte) : (s.setB v).intPending = s.intPending := rfl

@[simp] theorem State.setB_nmiPending (s : State) (v : Byte) : (s.setB v).nmiPending = s.nmiPending := rfl

@[simp] theorem State.setB_iCount (s : State) (v : Byte) : (s.setB v).iCount = s.iCount := rfl

@[simp] theorem State.setB_iPeriod (s : State) (v : Byte) : (s.setB v).iPeriod = s.iPeriod := rfl

@[simp] theorem State.setB_iBackup (s : State) (v : Byte) : (s.setB v).iBackup = s.iBackup := rfl

@[simp] theorem State.setB_iElapsed (s : State) (v : Byte) : (s.setB v).iElapsed = s.iElapsed := rfl

@[simp] theorem State.setB_ioByte (s : State) (v : Byte) : (s.setB v).ioByte = s.ioByte := rfl

@[simp] theorem State.setB_subPage (s : State) (v : Byte) : (s.setB v).subPage = s.subPage := rfl

@[simp] theorem State.setB_romEnableMask (s : State) (v : Byte) : (s.setB v).romEnableMask = s.romEnableMask := rfl

@[simp] theorem State.setB_ram (s : State) (v : Byte) : (s.setB v).ram = s.ram := rfl

@[simp] theorem State.setB_monitorRom (s : State) (v : Byte) : (s.setB v).monitorRom = s.monitorRom := rfl

@[simp] theorem State.setB_rom (s : State) (v : Byte) : (s.setB v).rom = s.rom := rfl

@[simp] theorem State.setB_cfg (s : State) (v : Byte) : (s.setB v).cfg = s.cfg := rfl

@[simp] theorem State.setB_draws (s : State) (v : Byte) : (s.setB v).draws = s.draws := rfl

@[simp] theorem State.setB_hostReplies (s : State) (v : Byte) : (s.setB v).hostReplies = s.hostReplies := rfl

@[simp] theorem State.setB_hostLog (s : State) (v : Byte) : (s.setB v).hostLog = s.hostLog := rfl

@[simp] theorem State.setB_readByte (s : State) (v : Byte) (y : Word) :
    (s.setB v).readByte y = s.readByte y := rfl

/-! ### `setFlags` -/

@[simp] theorem State.setFlags_cpu (s : State) (f : Flags) : (s.setFlags f).cpu = { s.cpu with main := { s.cpu.main with f := f } } := rfl

@[simp] theorem State.setFlags_intPending (s : State) (f : Flags) : (s.setFlags f).intPending = s.intPending := rfl

@[simp] theorem State.setFlags_nmiPending (s : State) (f : Flags) : (s.setFlags f).nmiPending = s.nmiPending := rfl

@[simp] theorem State.setFlags_iCount (s : State) (f : Flags) : (s.setFlags f).iCount = s.iCount := rfl

@[simp] theorem State.setFlags_iPeriod (s : State) (f : Flags) : (s.setFlags f).iPeriod = s.iPeriod := rfl

@[simp] theorem State.setFlags_iBackup (s : State) (f : Flags) : (s.setFlags f).iBackup = s.iBackup := rfl

@[simp] theorem State.setFlags_iElapsed (s : State) (f : Flags) : (s.setFlags f).iElapsed = s.iElapsed := rfl

@[simp] theorem State.setFlags_ioByte (s : State) (f : Flags) : (s.setFlags f).ioByte = s.ioByte := rfl

@[simp] theorem State.setFlags_subPage (s : State) (f : Flags) : (s.setFlags f).subPage = s.subPage := rfl

@[simp] theorem State.setFlags_romEnableMask (s : State) (f : Flags) : (s.setFlags f).romEnableMask = s.romEnableMask := rfl

@[simp] theorem State.setFlags_ram (s : State) (f : Flags) : (s.setFlags f).ram = s.ram := rfl

@[simp] theorem State.setFlags_monitorRom (s : State) (f : Flags) : (s.setFlags f).monitorRom = s.monitorRom := rfl

@[simp] theorem State.setFlags_rom (s : State) (f : Flags) : (s.setFlags f).rom = s.rom := rfl

@[simp] theorem State.setFlags_cfg (s : State) (f : Flags) : (s.setFlags f).cfg = s.cfg := rfl

@[simp] theorem State.setFlags_draws (s : State) (f : Flags) : (s.setFlags f).draws = s.draws := rfl

@[simp] theorem State.setFlags_hostReplies (s : State) (f : Flags) : (s.setFlags f).hostReplies = s.hostReplies := rfl

@[simp] theorem State.setFlags_hostLog (s : State) (f : Flags) : (s.setFlags f).hostLog = s.hostLog := rfl

@[simp] theorem State.setFlags_readByte (s : State) (f : Flags) (y : Word) :
    (s.setFlags f).readByte y = s.readByte y := rfl

/-! ### `setEiDelay` -/

@[simp] theorem State.setEiDelay_cpu (s : State) (b : Bool) : (s.setEiDelay b).cpu = { s.cpu with eiDelay := b } := rfl

@[simp] theorem State.setEiDelay_intPending (s : State) (b : Bool) : (s.setEiDelay b).intPending = s.intPending := rfl

@[simp] theorem State.setEiDelay_nmiPending (s : State) (b : Bool) : (s.setEiDelay b).nmiPending = s.nmiPending := rfl

@[simp] theorem State.setEiDelay_iCount (s : State) (b : Bool) : (s.setEiDelay b).iCount = s.iCount := rfl

@[simp] theorem State.setEiDelay_iPeriod (s : State) (b : Bool) : (s.setEiDelay b).iPeriod = s.iPeriod := rfl

@[simp] theorem State.setEiDelay_iBackup (s : State) (b : Bool) : (s.setEiDelay b).iBackup = s.iBackup := rfl

@[simp] theorem State.setEiDelay_iElapsed (s : State) (b : Bool) : (s.setEiDelay b).iElapsed = s.iElapsed := rfl

@[simp] theorem State.setEiDelay_ioByte (s : State) (b : Bool) : (s.setEiDelay b).ioByte = s.ioByte := rfl

@[simp] theorem State.setEiDelay_subPage (s : State) (b : Bool) : (s.setEiDelay b).subPage = s.subPage := rfl

@[simp] theorem State.setEiDelay_romEnableMask (s : State) (b : Bool) : (s.setEiDelay b).romEnableMask = s.romEnableMask := rfl

@[simp] theorem State.setEiDelay_ram (s : State) (b : Bool) : (s.setEiDelay b).ram = s.ram := rfl

@[simp] theorem State.setEiDelay_monitorRom (s : State) (b : Bool) : (s.setEiDelay b).monitorRom = s.monitorRom := rfl

@[simp] theorem State.setEiDelay_rom (s : State) (b : Bool) : (s.setEiDelay b).rom = s.rom := rfl

@[simp] theorem State.setEiDelay_cfg (s : State) (b : Bool) : (s.setEiDelay b).cfg = s.cfg := rfl

@[simp] theorem State.setEiDelay_draws (s : State) (b : Bool) : (s.setEiDelay b).draws = s.draws := rfl

@[simp] theorem State.setEiDelay_hostReplies (s : State) (b : Bool) : (s.setEiDelay b).hostReplies = s.hostReplies := rfl

@[simp] theorem State.setEiDelay_hostLog (s : State) (b : Bool) : (s.setEiDelay b).hostLog = s.hostLog := rfl

@[simp] theorem State.setEiDelay_readByte (s : State) (b : Bool) (y : Word) :
    (s.setEiDelay b).readByte y = s.readByte y := rfl

/-! ### `advance` -/

@[simp] theorem State.advance_cpu (s : State) (k : Nat) : (s.advance k).cpu = { s.cpu with pc := s.cpu.pc + BitVec.ofNat 16 k } := rfl

@[simp] theorem State.advance_intPending (s : State) (k : Nat) : (s.advance k).intPending = s.intPending := rfl

@[simp] theorem State.advance_nmiPending (s : State) (k : Nat) : (s.advance k).nmiPending = s.nmiPending := rfl

@[simp] theorem State.advance_iCount (s : State) (k : Nat) : (s.advance k).iCount = s.iCount := rfl

@[simp] theorem State.advance_iPeriod (s : State) (k : Nat) : (s.advance k).iPeriod = s.iPeriod := rfl

@[simp] theorem State.advance_iBackup (s : State) (k : Nat) : (s.advance k).iBackup = s.iBackup := rfl

@[simp] theorem State.advance_iElapsed (s : State) (k : Nat) : (s.advance k).iElapsed = s.iElapsed := rfl

@[simp] theorem State.advance_ioByte (s : State) (k : Nat) : (s.advance k).ioByte = s.ioByte := rfl

@[simp] theorem State.advance_subPage (s : State) (k : Nat) : (s.advance k).subPage = s.subPage := rfl

@[simp] theorem State.advance_romEnableMask (s : State) (k : Nat) : (s.advance k).romEnableMask = s.romEnableMask := rfl

@[simp] theorem State.advance_ram (s : State) (k : Nat) : (s.advance k).ram = s.ram := rfl

@[simp] theorem State.advance_monitorRom (s : State) (k : Nat) : (s.advance k).monitorRom = s.monitorRom := rfl

@[simp] theorem State.advance_rom (s : State) (k : Nat) : (s.advance k).rom = s.rom := rfl

@[simp] theorem State.advance_cfg (s : State) (k : Nat) : (s.advance k).cfg = s.cfg := rfl

@[simp] theorem State.advance_draws (s : State) (k : Nat) : (s.advance k).draws = s.draws := rfl

@[simp] theorem State.advance_hostReplies (s : State) (k : Nat) : (s.advance k).hostReplies = s.hostReplies := rfl

@[simp] theorem State.advance_hostLog (s : State) (k : Nat) : (s.advance k).hostLog = s.hostLog := rfl

@[simp] theorem State.advance_readByte (s : State) (k : Nat) (y : Word) :
    (s.advance k).readByte y = s.readByte y := rfl

/-! ### `setBc` -/

@[simp] theorem State.setBc_cpu (s : State) (v : Word) : (s.setBc v).cpu = { s.cpu with main := { s.cpu.main with b := highByte v, c := lowByte v } } := rfl

@[simp] theorem State.setBc_intPending (s : State) (v : Word) : (s.setBc v).intPending = s.intPending := rfl

@[simp] theorem State.setBc_nmiPending (s : State) (v : Word) : (s.setBc v).nmiPending = s.nmiPending := rfl

@[simp] theorem State.setBc_iCount (s : State) (v : Word) : (s.setBc v).iCount = s.iCount := rfl

@[simp] theorem State.setBc_iPeriod (s : State) (v : Word) : (s.setBc v).iPeriod = s.iPeriod := rfl

@[simp] theorem State.setBc_iBackup (s : State) (v : Word) : (s.setBc v).iBackup = s.iBackup := rfl

@[simp] theorem State.setBc_iElapsed (s : State) (v : Word) : (s.setBc v).iElapsed = s.iElapsed := rfl

@[simp] theorem State.setBc_ioByte (s : State) (v : Word) : (s.setBc v).ioByte = s.ioByte := rfl

@[simp] theorem State.setBc_subPage (s : State) (v : Word) : (s.setBc v).subPage = s.subPage := rfl

@[simp] theorem State.setBc_romEnableMask (s : State) (v : Word) : (s.setBc v).romEnableMask = s.romEnableMask := rfl

@[simp] theorem State.setBc_ram (s : State) (v : Word) : (s.setBc v).ram = s.ram := rfl

@[simp] theorem State.setBc_monitorRom (s : State) (v : Word) : (s.setBc v).monitorRom = s.monitorRom := rfl

@[simp] theorem State.setBc_rom (s : State) (v : Word) : (s.setBc v).rom = s.rom := rfl

@[simp] theorem State.setBc_cfg (s : State) (v : Word) : (s.setBc v).cfg = s.cfg := rfl

@[simp] theorem State.setBc_draws (s : State) (v : Word) : (s.setBc v).draws = s.draws := rfl

@[simp] theorem State.setBc_hostReplies (s : State) (v : Word) : (s.setBc v).hostReplies = s.hostReplies := rfl

@[simp] theorem State.setBc_hostLog (s : State) (v : Word) : (s.setBc v).hostLog = s.hostLog := rfl

@[simp] theorem State.setBc_readByte (s : State) (v : Word) (y : Word) :
    (s.setBc v).readByte y = s.readByte y := rfl

/-! ### `setDe` -/

@[simp] theorem State.setDe_cpu (s : State) (v : Word) : (s.setDe v).cpu = { s.cpu with main := { s.cpu.main with d := highByte v, e := lowByte v } } := rfl

@[simp] theorem State.setDe_intPending (s : State) (v : Word) : (s.setDe v).intPending = s.intPending := rfl

@[simp] theorem State.setDe_nmiPending (s : State) (v : Word) : (s.setDe v).nmiPending = s.nmiPending := rfl

@[simp] theorem State.setDe_iCount (s : State) (v : Word) : (s.setDe v).iCount = s.iCount := rfl

@[simp] theorem State.setDe_iPeriod (s : State) (v : Word) : (s.setDe v).iPeriod = s.iPeriod := rfl

@[simp] theorem State.setDe_iBackup (s : State) (v : Word) : (s.setDe v).iBackup = s.iBackup := rfl

@[simp] theorem State.setDe_iElapsed (s : State) (v : Word) : (s.setDe v).iElapsed = s.iElapsed := rfl

@[simp] theorem State.setDe_ioByte (s : State) (v : Word) : (s.setDe v).ioByte = s.ioByte := rfl

@[simp] theorem State.setDe_subPage (s : State) (v : Word) : (s.setDe v).subPage = s.subPage := rfl

@[simp] theorem State.setDe_romEnableMask (s : State) (v : Word) : (s.setDe v).romEnableMask = s.romEnableMask := rfl

@[simp] theorem State.setDe_ram (s : State) (v : Word) : (s.setDe v).ram = s.ram := rfl

@[simp] theorem State.setDe_monitorRom (s : State) (v : Word) : (s.setDe v).monitorRom = s.monitorRom := rfl

@[simp] theorem State.setDe_rom (s : State) (v : Word) : (s.setDe v).rom = s.rom := rfl

@[simp] theorem State.setDe_cfg (s : State) (v : Word) : (s.setDe v).cfg = s.cfg := rfl

@[simp] theorem State.setDe_draws (s : State) (v : Word) : (s.setDe v).draws = s.draws := rfl

@[simp] theorem State.setDe_hostReplies (s : State) (v : Word) : (s.setDe v).hostReplies = s.hostReplies := rfl

@[simp] theorem State.setDe_hostLog (s : State) (v : Word) : (s.setDe v).hostLog = s.hostLog := rfl

@[simp] theorem State.setDe_readByte (s : State) (v : Word) (y : Word) :
    (s.setDe v).readByte y = s.readByte y := rfl

/-! ### `setHl` -/

@[simp] theorem State.setHl_cpu (s : State) (v : Word) : (s.setHl v).cpu = { s.cpu with main := { s.cpu.main with h := highByte v, l := lowByte v } } := rfl

@[simp] theorem State.setHl_intPending (s : State) (v : Word) : (s.setHl v).intPending = s.intPending := rfl

@[simp] theorem State.setHl_nmiPending (s : State) (v : Word) : (s.setHl v).nmiPending = s.nmiPending := rfl

@[simp] theorem State.setHl_iCount (s : State) (v : Word) : (s.setHl v).iCount = s.iCount := rfl

@[simp] theorem State.setHl_iPeriod (s : State) (v : Word) : (s.setHl v).iPeriod = s.iPeriod := rfl

@[simp] theorem State.setHl_iBackup (s : State) (v : Word) : (s.setHl v).iBackup = s.iBackup := rfl

@[simp] theorem State.setHl_iElapsed (s : State) (v : Word) : (s.setHl v).iElapsed = s.iElapsed := rfl

@[simp] theorem State.setHl_ioByte (s : State) (v : Word) : (s.setHl v).ioByte = s.ioByte := rfl

@[simp] theorem State.setHl_subPage (s : State) (v : Word) : (s.setHl v).subPage = s.subPage := rfl

@[simp] theorem State.setHl_romEnableMask (s : State) (v : Word) : (s.setHl v).romEnableMask = s.romEnableMask := rfl

@[simp] theorem State.setHl_ram (s : State) (v : Word) : (s.setHl v).ram = s.ram := rfl

@[simp] theorem State.setHl_monitorRom (s : State) (v : Word) : (s.setHl v).monitorRom = s.monitorRom := rfl

@[simp] theorem State.setHl_rom (s : State) (v : Word) : (s.setHl v).rom = s.rom := rfl

@[simp] theorem State.setHl_cfg (s : State) (v : Word) : (s.setHl v).cfg = s.cfg := rfl

@[simp] theorem State.setHl_draws (s : State) (v : Word) : (s.setHl v).draws = s.draws := rfl

@[simp] theorem State.setHl_hostReplies (s : State) (v : Word) : (s.setHl v).hostReplies = s.hostReplies := rfl

@[simp] theorem State.setHl_hostLog (s : State) (v : Word) : (s.setHl v).hostLog = s.hostLog := rfl

@[simp] theorem State.setHl_readByte (s : State) (v : Word) (y : Word) :
    (s.setHl v).readByte y = s.readByte y := rfl

/-! ### `setAf` -/

@[simp] theorem State.setAf_cpu (s : State) (v : Word) : (s.setAf v).cpu = { s.cpu with main := { s.cpu.main with a := highByte v, f := Flags.ofByte (lowByte v) } } := rfl

@[simp] theorem State.setAf_intPending (s : State) (v : Word) : (s.setAf v).intPending = s.intPending := rfl

@[simp] theorem State.setAf_nmiPending (s : State) (v : Word) : (s.setAf v).nmiPending = s.nmiPending := rfl

@[simp] theorem State.setAf_iCount (s : State) (v : Word) : (s.setAf v).iCount = s.iCount := rfl

@[simp] theorem State.setAf_iPeriod (s : State) (v : Word) : (s.setAf v).iPeriod = s.iPeriod := rfl

@[simp] theorem State.setAf_iBackup (s : State) (v : Word) : (s.setAf v).iBackup = s.iBackup := rfl

@[simp] theorem State.setAf_iElapsed (s : State) (v : Word) : (s.setAf v).iElapsed = s.iElapsed := rfl

@[simp] theorem State.setAf_ioByte (s : State) (v : Word) : (s.setAf v).ioByte = s.ioByte := rfl

@[simp] theorem State.setAf_subPage (s : State) (v : Word) : (s.setAf v).subPage = s.subPage := rfl

@[simp] theorem State.setAf_romEnableMask (s : State) (v : Word) : (s.setAf v).romEnableMask = s.romEnableMask := rfl

@[simp] theorem State.setAf_ram (s : State) (v : Word) : (s.setAf v).ram = s.ram := rfl

@[simp] theorem State.setAf_monitorRom (s : State) (v : Word) : (s.setAf v).monitorRom = s.monitorRom := rfl

@[simp] theorem State.setAf_rom (s : State) (v : Word) : (s.setAf v).rom = s.rom := rfl

@[simp] theorem State.setAf_cfg (s : State) (v : Word) : (s.setAf v).cfg = s.cfg := rfl

@[simp] theorem State.setAf_draws (s : State) (v : Word) : (s.setAf v).draws = s.draws := rfl

@[simp] theorem State.setAf_hostReplies (s : State) (v : Word) : (s.setAf v).hostReplies = s.hostReplies := rfl

@[simp] theorem State.setAf_hostLog (s : State) (v : Word) : (s.setAf v).hostLog = s.hostLog := rfl

@[simp] theorem State.setAf_readByte (s : State) (v : Word) (y : Word) :
    (s.setAf v).readByte y = s.readByte y := rfl

/-! ### `setReg8` -/

@[simp] theorem State.setReg8_intPending (s : State) (r : Reg8) (v : Byte) : (s.setReg8 r v).intPending = s.intPending := rfl

@[simp] theorem State.setReg8_nmiPending (s : State) (r : Reg8) (v : Byte) : (s.setReg8 r v).nmiPending = s.nmiPending := rfl

@[simp] theorem State.setReg8_iCount (s : State) (r : Reg8) (v : Byte) : (s.setReg8 r v).iCount = s.iCount := rfl

@[simp] theorem State.setReg8_iPeriod (s : State) (r : Reg8) (v : Byte) : (s.setReg8 r v).iPeriod = s.iPeriod := rfl

@[simp] theorem State.setReg8_iBackup (s : State) (r : Reg8) (v : Byte) : (s.setReg8 r v).iBackup = s.iBackup := rfl

@[simp] theorem State.setReg8_iElapsed (s : State) (r : Reg8) (v : Byte) : (s.setReg8 r v).iElapsed = s.iElapsed := rfl

@[simp] theorem State.setReg8_ioByte (s : State) (r : Reg8) (v : Byte) : (s.setReg8 r v).ioByte = s.ioByte := rfl

@[simp] theorem State.setReg8_subPage (s : State) (r : Reg8) (v : Byte) : (s.setReg8 r v).subPage = s.subPage := rfl

@[simp] theorem State.setReg8_romEnableMask (s : State) (r : Reg8) (v : Byte) : (s.setReg8 r v).romEnableMask = s.romEnableMask := rfl

@[simp] theorem State.setReg8_ram (s : State) (r : Reg8) (v : Byte) : (s.setReg8 r v).ram = s.ram := rfl

@[simp] theorem State.setReg8_monitorRom (s : State) (r : Reg8) (v : Byte) : (s.setReg8 r v).monitorRom = s.monitorRom := rfl

@[simp] theorem State.setReg8_rom (s : State) (r : Reg8) (v : Byte) : (s.setReg8 r v).rom = s.rom := rfl

@[simp] theorem State.setReg8_cfg (s : State) (r : Reg8) (v : Byte) : (s.setReg8 r v).cfg = s.cfg := rfl

@[simp] theorem State.setReg8_draws (s : State) (r : Reg8) (v : Byte) : (s.setReg8 r v).draws = s.draws := rfl

@[simp] theorem State.setReg8_hostReplies (s : State) (r : Reg8) (v : Byte) : (s.setReg8 r v).hostReplies = s.hostReplies := rfl

@[simp] theorem State.setReg8_hostLog (s : State) (r : Reg8) (v : Byte) : (s.setReg8 r v).hostLog = s.hostLog := rfl

@[simp] theorem State.setReg8_readByte (s : State) (r : Reg8) (v : Byte) (y : Word) :
    (s.setReg8 r v).readByte y = s.readByte y := rfl

/-! ### `setPair` -/

@[simp] theorem State.setPair_intPending (s : State) (p : Pair) (v : Word) : (s.setPair p v).intPending = s.intPending := by cases p <;> rfl

@[simp] theorem State.setPair_nmiPending (s : State) (p : Pair) (v : Word) : (s.setPair p v).nmiPending = s.nmiPending := by cases p <;> rfl

@[simp] theorem State.setPair_iCount (s : State) (p : Pair) (v : Word) : (s.setPair p v).iCount = s.iCount := by cases p <;> rfl

@[simp] theorem State.setPair_iPeriod (s : State) (p : Pair) (v : Word) : (s.setPair p v).iPeriod = s.iPeriod := by cases p <;> rfl

@[simp] theorem State.setPair_iBackup (s : State) (p : Pair) (v : Word) : (s.setPair p v).iBackup = s.iBackup := by cases p <;> rfl

@[simp] theorem State.setPair_iElapsed (s : State) (p : Pair) (v : Word) : (s.setPair p v).iElapsed = s.iElapsed := by cases p <;> rfl

@[simp] theorem State.setPair_ioByte (s : State) (p : Pair) (v : Word) : (s.setPair p v).ioByte = s.ioByte := by cases p <;> rfl

@[simp] theorem State.setPair_subPage (s : State) (p : Pair) (v : Word) : (s.setPair p v).subPage = s.subPage := by cases p <;> rfl

@[simp] theorem State.setPair_romEnableMask (s : State) (p : Pair) (v : Word) : (s.setPair p v).romEnableMask = s.romEnableMask := by cases p <;> rfl

@[simp] theorem State.setPair_ram (s : State) (p : Pair) (v : Word) : (s.setPair p v).ram = s.ram := by cases p <;> rfl

@[simp] theorem State.setPair_monitorRom (s : State) (p : Pair) (v : Word) : (s.setPair p v).monitorRom = s.monitorRom := by cases p <;> rfl

@[simp] theorem State.setPair_rom (s : State) (p : Pair) (v : Word) : (s.setPair p v).rom = s.rom := by cases p <;> rfl

@[simp] theorem State.setPair_cfg (s : State) (p : Pair) (v : Word) : (s.setPair p v).cfg = s.cfg := by cases p <;> rfl

@[simp] theorem State.setPair_draws (s : State) (p : Pair) (v : Word) : (s.setPair p v).draws = s.draws := by cases p <;> rfl

@[simp] theorem State.setPair_hostReplies (s : State) (p : Pair) (v : Word) : (s.setPair p v).hostReplies = s.hostReplies := by cases p <;> rfl

@[simp] theorem State.setPair_hostLog (s : State) (p : Pair) (v : Word) : (s.setPair p v).hostLog = s.hostLog := by cases p <;> rfl

@[simp] theorem State.setPair_readByte (s : State) (p : Pair) (v : Word) (y : Word) :
    (s.setPair p v).readByte y = s.readByte y := by cases p <;> rfl

/-! ### `setPairQ` -/

@[simp] theorem State.setPairQ_intPending (s : State) (q : PairQ) (v : Word) : (s.setPairQ q v).intPending = s.intPending := by cases q <;> rfl

@[simp] theorem State.setPairQ_nmiPending (s : State) (q : PairQ) (v : Word) : (s.setPairQ q v).nmiPending = s.nmiPending := by cases q <;> rfl

@[simp] theorem State.setPairQ_iCount (s : State) (q : PairQ) (v : Word) : (s.setPairQ q v).iCount = s.iCount := by cases q <;> rfl

@[simp] theorem State.setPairQ_iPeriod (s : State) (q : PairQ) (v : Word) : (s.setPairQ q v).iPeriod = s.iPeriod := by cases q <;> rfl

@[simp] theorem State.setPairQ_iBackup (s : State) (q : PairQ) (v : Word) : (s.setPairQ q v).iBackup = s.iBackup := by cases q <;> rfl

@[simp] theorem State.setPairQ_iElapsed (s : State) (q : PairQ) (v : Word) : (s.setPairQ q v).iElapsed = s.iElapsed := by cases q <;> rfl

@[simp] theorem State.setPairQ_ioByte (s : State) (q : PairQ) (v : Word) : (s.setPairQ q v).ioByte = s.ioByte := by cases q <;> rfl

@[simp] theorem State.setPairQ_subPage (s : State) (q : PairQ) (v : Word) : (s.setPairQ q v).subPage = s.subPage := by cases q <;> rfl

@[simp] theorem State.setPairQ_romEnableMask (s : State) (q : PairQ) (v : Word) : (s.setPairQ q v).romEnableMask = s.romEnableMask := by cases q <;> rfl

@[simp] theorem State.setPairQ_ram (s : State) (q : PairQ) (v : Word) : (s.setPairQ q v).ram = s.ram := by cases q <;> rfl

@[simp] theorem State.setPairQ_monitorRom (s : State) (q : PairQ) (v : Word) : (s.setPairQ q v).monitorRom = s.monitorRom := by cases q <;> rfl

@[simp] theorem State.setPairQ_rom (s : State) (q : PairQ) (v : Word) : (s.setPairQ q v).rom = s.rom := by cases q <;> rfl

@[simp] theorem State.setPairQ_cfg (s : State) (q : PairQ) (v : Word) : (s.setPairQ q v).cfg = s.cfg := by cases q <;> rfl

@[simp] theorem State.setPairQ_draws (s : State) (q : PairQ) (v : Word) : (s.setPairQ q v).draws = s.draws := by cases q <;> rfl

@[simp] theorem State.setPairQ_hostReplies (s : State) (q : PairQ) (v : Word) : (s.setPairQ q v).hostReplies = s.hostReplies := by cases q <;> rfl

@[simp] theorem State.setPairQ_hostLog (s : State) (q : PairQ) (v : Word) : (s.setPairQ q v).hostLog = s.hostLog := by cases q <;> rfl

@[simp] theorem State.setPairQ_readByte (s : State) (q : PairQ) (v : Word) (y : Word) :
    (s.setPairQ q v).readByte y = s.readByte y := by cases q <;> rfl

/-! ### `setIndex` -/

@[simp] theorem State.setIndex_intPending (s : State) (x : IndexReg) (v : Word) : (s.setIndex x v).intPending = s.intPending := by cases x <;> rfl

@[simp] theorem State.setIndex_nmiPending (s : State) (x : IndexReg) (v : Word) : (s.setIndex x v).nmiPending = s.nmiPending := by cases x <;> rfl

@[simp] theorem State.setIndex_iCount (s : State) (x : IndexReg) (v : Word) : (s.setIndex x v).iCount = s.iCount := by cases x <;> rfl

@[simp] theorem State.setIndex_iPeriod (s : State) (x : IndexReg) (v : Word) : (s.setIndex x v).iPeriod = s.iPeriod := by cases x <;> rfl

@[simp] theorem State.setIndex_iBackup (s : State) (x : IndexReg) (v : Word) : (s.setIndex x v).iBackup = s.iBackup := by cases x <;> rfl

@[simp] theorem State.setIndex_iElapsed (s : State) (x : IndexReg) (v : Word) : (s.setIndex x v).iElapsed = s.iElapsed := by cases x <;> rfl

@[simp] theorem State.setIndex_ioByte (s : State) (x : IndexReg) (v : Word) : (s.setIndex x v).ioByte = s.ioByte := by cases x <;> rfl

@[simp] theorem State.setIndex_subPage (s : State) (x : IndexReg) (v : Word) : (s.setIndex x v).subPage = s.subPage := by cases x <;> rfl

@[simp] theorem State.setIndex_romEnableMask (s : State) (x : IndexReg) (v : Word) : (s.setIndex x v).romEnableMask = s.romEnableMask := by cases x <;> rfl

@[simp] theorem State.setIndex_ram (s : State) (x : IndexReg) (v : Word) : (s.setIndex x v).ram = s.ram := by cases x <;> rfl

@[simp] theorem State.setIndex_monitorRom (s : State) (x : IndexReg) (v : Word) : (s.setIndex x v).monitorRom = s.monitorRom := by cases x <;> rfl

@[simp] theorem State.setIndex_rom (s : State) (x : IndexReg) (v : Word) : (s.setIndex x v).rom = s.rom := by cases x <;> rfl

@[simp] theorem State.setIndex_cfg (s : State) (x : IndexReg) (v : Word) : (s.setIndex x v).cfg = s.cfg := by cases x <;> rfl

@[simp] theorem State.setIndex_draws (s : State) (x : IndexReg) (v : Word) : (s.setIndex x v).draws = s.draws := by cases x <;> rfl

@[simp] theorem State.setIndex_hostReplies (s : State) (x : IndexReg) (v : Word) : (s.setIndex x v).hostReplies = s.hostReplies := by cases x <;> rfl

@[simp] theorem State.setIndex_hostLog (s : State) (x : IndexReg) (v : Word) : (s.setIndex x v).hostLog = s.hostLog := by cases x <;> rfl

@[simp] theorem State.setIndex_readByte (s : State) (x : IndexReg) (v : Word) (y : Word) :
    (s.setIndex x v).readByte y = s.readByte y := by cases x <;> rfl

/-! ### `popped` -/

@[simp] theorem State.popped_cpu (s : State) : s.popped.cpu = { s.cpu with sp := s.cpu.sp + 2 } := rfl

@[simp] theorem State.popped_intPending (s : State) : s.popped.intPending = s.intPending := rfl

@[simp] theorem State.popped_nmiPending (s : State) : s.popped.nmiPending = s.nmiPending := rfl

@[simp] theorem State.popped_iCount (s : State) : s.popped.iCount = s.iCount := rfl

@[simp] theorem State.popped_iPeriod (s : State) : s.popped.iPeriod = s.iPeriod := rfl

@[simp] theorem State.popped_iBackup (s : State) : s.popped.iBackup = s.iBackup := rfl

@[simp] theorem State.popped_iElapsed (s : State) : s.popped.iElapsed = s.iElapsed := rfl

@[simp] theorem State.popped_ioByte (s : State) : s.popped.ioByte = s.ioByte := rfl

@[simp] theorem State.popped_subPage (s : State) : s.popped.subPage = s.subPage := rfl

@[simp] theorem State.popped_romEnableMask (s : State) : s.popped.romEnableMask = s.romEnableMask := rfl

@[simp] theorem State.popped_ram (s : State) : s.popped.ram = s.ram := rfl

@[simp] theorem State.popped_monitorRom (s : State) : s.popped.monitorRom = s.monitorRom := rfl

@[simp] theorem State.popped_rom (s : State) : s.popped.rom = s.rom := rfl

@[simp] theorem State.popped_cfg (s : State) : s.popped.cfg = s.cfg := rfl

@[simp] theorem State.popped_draws (s : State) : s.popped.draws = s.draws := rfl

@[simp] theorem State.popped_hostReplies (s : State) : s.popped.hostReplies = s.hostReplies := rfl

@[simp] theorem State.popped_hostLog (s : State) : s.popped.hostLog = s.hostLog := rfl

@[simp] theorem State.popped_readByte (s : State) (y : Word) :
    s.popped.readByte y = s.readByte y := rfl

/-! ### `nextDraw` -/

@[simp] theorem State.nextDraw_cpu (s : State) : s.nextDraw.cpu = s.cpu := rfl

@[simp] theorem State.nextDraw_intPending (s : State) : s.nextDraw.intPending = s.intPending := rfl

@[simp] theorem State.nextDraw_nmiPending (s : State) : s.nextDraw.nmiPending = s.nmiPending := rfl

@[simp] theorem State.nextDraw_iCount (s : State) : s.nextDraw.iCount = s.iCount := rfl

@[simp] theorem State.nextDraw_iPeriod (s : State) : s.nextDraw.iPeriod = s.iPeriod := rfl

@[simp] theorem State.nextDraw_iBackup (s : State) : s.nextDraw.iBackup = s.iBackup := rfl

@[simp] theorem State.nextDraw_iElapsed (s : State) : s.nextDraw.iElapsed = s.iElapsed := rfl

@[simp] theorem State.nextDraw_ioByte (s : State) : s.nextDraw.ioByte = s.ioByte := rfl

@[simp] theorem State.nextDraw_subPage (s : State) : s.nextDraw.subPage = s.subPage := rfl

@[simp] theorem State.nextDraw_romEnableMask (s : State) : s.nextDraw.romEnableMask = s.romEnableMask := rfl

@[simp] theorem State.nextDraw_ram (s : State) : s.nextDraw.ram = s.ram := rfl

@[simp] theorem State.nextDraw_monitorRom (s : State) : s.nextDraw.monitorRom = s.monitorRom := rfl

@[simp] theorem State.nextDraw_rom (s : State) : s.nextDraw.rom = s.rom := rfl

@[simp] theorem State.nextDraw_cfg (s : State) : s.nextDraw.cfg = s.cfg := rfl

@[simp] theorem State.nextDraw_draws (s : State) : s.nextDraw.draws = s.draws + 1 := rfl

@[simp] theorem State.nextDraw_hostReplies (s : State) : s.nextDraw.hostReplies = s.hostReplies := rfl

@[simp] theorem State.nextDraw_hostLog (s : State) : s.nextDraw.hostLog = s.hostLog := rfl

@[simp] theorem State.nextDraw_readByte (s : State) (y : Word) :
    s.nextDraw.readByte y = s.readByte y := rfl

/-! ### `writeFlags` -/

@[simp] theorem State.writeFlags_cpu (s : State) (f : Flags → Flags) : (s.writeFlags f).cpu = { s.cpu with main := { s.cpu.main with f := f s.drawnFlags } } := rfl

@[simp] theorem State.writeFlags_intPending (s : State) (f : Flags → Flags) : (s.writeFlags f).intPending = s.intPending := rfl

@[simp] theorem State.writeFlags_nmiPending (s : State) (f : Flags → Flags) : (s.writeFlags f).nmiPending = s.nmiPending := rfl

@[simp] theorem State.writeFlags_iCount (s : State) (f : Flags → Flags) : (s.writeFlags f).iCount = s.iCount := rfl

@[simp] theorem State.writeFlags_iPeriod (s : State) (f : Flags → Flags) : (s.writeFlags f).iPeriod = s.iPeriod := rfl

@[simp] theorem State.writeFlags_iBackup (s : State) (f : Flags → Flags) : (s.writeFlags f).iBackup = s.iBackup := rfl

@[simp] theorem State.writeFlags_iElapsed (s : State) (f : Flags → Flags) : (s.writeFlags f).iElapsed = s.iElapsed := rfl

@[simp] theorem State.writeFlags_ioByte (s : State) (f : Flags → Flags) : (s.writeFlags f).ioByte = s.ioByte := rfl

@[simp] theorem State.writeFlags_subPage (s : State) (f : Flags → Flags) : (s.writeFlags f).subPage = s.subPage := rfl

@[simp] theorem State.writeFlags_romEnableMask (s : State) (f : Flags → Flags) : (s.writeFlags f).romEnableMask = s.romEnableMask := rfl

@[simp] theorem State.writeFlags_ram (s : State) (f : Flags → Flags) : (s.writeFlags f).ram = s.ram := rfl

@[simp] theorem State.writeFlags_monitorRom (s : State) (f : Flags → Flags) : (s.writeFlags f).monitorRom = s.monitorRom := rfl

@[simp] theorem State.writeFlags_rom (s : State) (f : Flags → Flags) : (s.writeFlags f).rom = s.rom := rfl

@[simp] theorem State.writeFlags_cfg (s : State) (f : Flags → Flags) : (s.writeFlags f).cfg = s.cfg := rfl

@[simp] theorem State.writeFlags_draws (s : State) (f : Flags → Flags) : (s.writeFlags f).draws = s.draws + 1 := rfl

@[simp] theorem State.writeFlags_hostReplies (s : State) (f : Flags → Flags) : (s.writeFlags f).hostReplies = s.hostReplies := rfl

@[simp] theorem State.writeFlags_hostLog (s : State) (f : Flags → Flags) : (s.writeFlags f).hostLog = s.hostLog := rfl

@[simp] theorem State.writeFlags_readByte (s : State) (f : Flags → Flags) (y : Word) :
    (s.writeFlags f).readByte y = s.readByte y := rfl

/-! ### `charge` -/

@[simp] theorem State.charge_cpu (s : State) (k : Nat) : (s.charge k).cpu = s.cpu := rfl

@[simp] theorem State.charge_intPending (s : State) (k : Nat) : (s.charge k).intPending = s.intPending := rfl

@[simp] theorem State.charge_nmiPending (s : State) (k : Nat) : (s.charge k).nmiPending = s.nmiPending := rfl

@[simp] theorem State.charge_iCount (s : State) (k : Nat) : (s.charge k).iCount = s.iCount - k := rfl

@[simp] theorem State.charge_iPeriod (s : State) (k : Nat) : (s.charge k).iPeriod = s.iPeriod := rfl

@[simp] theorem State.charge_iBackup (s : State) (k : Nat) : (s.charge k).iBackup = s.iBackup := rfl

@[simp] theorem State.charge_iElapsed (s : State) (k : Nat) : (s.charge k).iElapsed = s.iElapsed + k := rfl

@[simp] theorem State.charge_ioByte (s : State) (k : Nat) : (s.charge k).ioByte = s.ioByte := rfl

@[simp] theorem State.charge_subPage (s : State) (k : Nat) : (s.charge k).subPage = s.subPage := rfl

@[simp] theorem State.charge_romEnableMask (s : State) (k : Nat) : (s.charge k).romEnableMask = s.romEnableMask := rfl

@[simp] theorem State.charge_ram (s : State) (k : Nat) : (s.charge k).ram = s.ram := rfl

@[simp] theorem State.charge_monitorRom (s : State) (k : Nat) : (s.charge k).monitorRom = s.monitorRom := rfl

@[simp] theorem State.charge_rom (s : State) (k : Nat) : (s.charge k).rom = s.rom := rfl

@[simp] theorem State.charge_cfg (s : State) (k : Nat) : (s.charge k).cfg = s.cfg := rfl

@[simp] theorem State.charge_draws (s : State) (k : Nat) : (s.charge k).draws = s.draws := rfl

@[simp] theorem State.charge_hostReplies (s : State) (k : Nat) : (s.charge k).hostReplies = s.hostReplies := rfl

@[simp] theorem State.charge_hostLog (s : State) (k : Nat) : (s.charge k).hostLog = s.hostLog := rfl

@[simp] theorem State.charge_readByte (s : State) (k : Nat) (y : Word) :
    (s.charge k).readByte y = s.readByte y := rfl

/-! ### `endStep` -/

@[simp] theorem State.endStep_cpu (s : State) (k : Nat) : (s.endStep k).cpu = { s.cpu with eiDelay := false } := rfl

@[simp] theorem State.endStep_intPending (s : State) (k : Nat) : (s.endStep k).intPending = s.intPending := rfl

@[simp] theorem State.endStep_nmiPending (s : State) (k : Nat) : (s.endStep k).nmiPending = s.nmiPending := rfl

@[simp] theorem State.endStep_iCount (s : State) (k : Nat) : (s.endStep k).iCount = s.iCount - k := rfl

@[simp] theorem State.endStep_iPeriod (s : State) (k : Nat) : (s.endStep k).iPeriod = s.iPeriod := rfl

@[simp] theorem State.endStep_iBackup (s : State) (k : Nat) : (s.endStep k).iBackup = s.iBackup := rfl

@[simp] theorem State.endStep_iElapsed (s : State) (k : Nat) : (s.endStep k).iElapsed = s.iElapsed + k := rfl

@[simp] theorem State.endStep_ioByte (s : State) (k : Nat) : (s.endStep k).ioByte = s.ioByte := rfl

@[simp] theorem State.endStep_subPage (s : State) (k : Nat) : (s.endStep k).subPage = s.subPage := rfl

@[simp] theorem State.endStep_romEnableMask (s : State) (k : Nat) : (s.endStep k).romEnableMask = s.romEnableMask := rfl

@[simp] theorem State.endStep_ram (s : State) (k : Nat) : (s.endStep k).ram = s.ram := rfl

@[simp] theorem State.endStep_monitorRom (s : State) (k : Nat) : (s.endStep k).monitorRom = s.monitorRom := rfl

@[simp] theorem State.endStep_rom (s : State) (k : Nat) : (s.endStep k).rom = s.rom := rfl

@[simp] theorem State.endStep_cfg (s : State) (k : Nat) : (s.endStep k).cfg = s.cfg := rfl

@[simp] theorem State.endStep_draws (s : State) (k : Nat) : (s.endStep k).draws = s.draws := rfl

@[simp] theorem State.endStep_hostReplies (s : State) (k : Nat) : (s.endStep k).hostReplies = s.hostReplies := rfl

@[simp] theorem State.endStep_hostLog (s : State) (k : Nat) : (s.endStep k).hostLog = s.hostLog := rfl

@[simp] theorem State.endStep_readByte (s : State) (k : Nat) (y : Word) :
    (s.endStep k).readByte y = s.readByte y := rfl

/-! ### `emit` -/

@[simp] theorem State.emit_cpu (s : State) (ev : HostEvent) : (s.emit ev).cpu = s.cpu := rfl

@[simp] theorem State.emit_intPending (s : State) (ev : HostEvent) : (s.emit ev).intPending = s.intPending := rfl

@[simp] theorem State.emit_nmiPending (s : State) (ev : HostEvent) : (s.emit ev).nmiPending = s.nmiPending := rfl

@[simp] theorem State.emit_iCount (s : State) (ev : HostEvent) : (s.emit ev).iCount = s.iCount := rfl

@[simp] theorem State.emit_iPeriod (s : State) (ev : HostEvent) : (s.emit ev).iPeriod = s.iPeriod := rfl

@[simp] theorem State.emit_iBackup (s : State) (ev : HostEvent) : (s.emit ev).iBackup = s.iBackup := rfl

@[simp] theorem State.emit_iElapsed (s : State) (ev : HostEvent) : (s.emit ev).iElapsed = s.iElapsed := rfl

@[simp] theorem State.emit_ioByte (s : State) (ev : HostEvent) : (s.emit ev).ioByte = s.ioByte := rfl

@[simp] theorem State.emit_subPage (s : State) (ev : HostEvent) : (s.emit ev).subPage = s.subPage := rfl

@[simp] theorem State.emit_romEnableMask (s : State) (ev : HostEvent) : (s.emit ev).romEnableMask = s.romEnableMask := rfl

@[simp] theorem State.emit_ram (s : State) (ev : HostEvent) : (s.emit ev).ram = s.ram := rfl

@[simp] theorem State.emit_monitorRom (s : State) (ev : HostEvent) : (s.emit ev).monitorRom = s.monitorRom := rfl

@[simp] theorem State.emit_rom (s : State) (ev : HostEvent) : (s.emit ev).rom = s.rom := rfl

@[simp] theorem State.emit_cfg (s : State) (ev : HostEvent) : (s.emit ev).cfg = s.cfg := rfl

@[simp] theorem State.emit_draws (s : State) (ev : HostEvent) : (s.emit ev).draws = s.draws := rfl

@[simp] theorem State.emit_hostReplies (s : State) (ev : HostEvent) : (s.emit ev).hostReplies = s.hostReplies := rfl

@[simp] theorem State.emit_hostLog (s : State) (ev : HostEvent) : (s.emit ev).hostLog = ev :: s.hostLog := rfl

@[simp] theorem State.emit_readByte (s : State) (ev : HostEvent) (y : Word) :
    (s.emit ev).readByte y = s.readByte y := rfl

/-! ### `latch` -/

@[simp] theorem State.latch_cpu (s : State) (r : HostReply) : (s.latch r).cpu = s.cpu := rfl

@[simp] theorem State.latch_intPending (s : State) (r : HostReply) : (s.latch r).intPending = (s.intPending || r.raiseInt) := rfl

@[simp] theorem State.latch_nmiPending (s : State) (r : HostReply) : (s.latch r).nmiPending = (s.nmiPending || r.raiseNmi) := rfl

@[simp] theorem State.latch_iCount (s : State) (r : HostReply) : (s.latch r).iCount = s.iCount := rfl

@[simp] theorem State.latch_iPeriod (s : State) (r : HostReply) : (s.latch r).iPeriod = s.iPeriod := rfl

@[simp] theorem State.latch_iBackup (s : State) (r : HostReply) : (s.latch r).iBackup = s.iBackup := rfl

@[simp] theorem State.latch_iElapsed (s : State) (r : HostReply) : (s.latch r).iElapsed = s.iElapsed := rfl

@[simp] theorem State.latch_ioByte (s : State) (r : HostReply) : (s.latch r).ioByte = s.ioByte := rfl

@[simp] theorem State.latch_subPage (s : State) (r : HostReply) : (s.latch r).subPage = s.subPage := rfl

@[simp] theorem State.latch_romEnableMask (s : State) (r : HostReply) : (s.latch r).romEnableMask = s.romEnableMask := rfl

@[simp] theorem State.latch_ram (s : State) (r : HostReply) : (s.latch r).ram = s.ram := rfl

@[simp] theorem State.latch_monitorRom (s : State) (r : HostReply) : (s.latch r).monitorRom = s.monitorRom := rfl

@[simp] theorem State.latch_rom (s : State) (r : HostReply) : (s.latch r).rom = s.rom := rfl

@[simp] theorem State.latch_cfg (s : State) (r : HostReply) : (s.latch r).cfg = s.cfg := rfl

@[simp] theorem State.latch_draws (s : State) (r : HostReply) : (s.latch r).draws = s.draws := rfl

@[simp] theorem State.latch_hostReplies (s : State) (r : HostReply) : (s.latch r).hostReplies = s.hostReplies := rfl

@[simp] theorem State.latch_hostLog (s : State) (r : HostReply) : (s.latch r).hostLog = s.hostLog := rfl

@[simp] theorem State.latch_readByte (s : State) (r : HostReply) (y : Word) :
    (s.latch r).readByte y = s.readByte y := rfl

/-! ### `afterCall` -/

@[simp] theorem State.afterCall_cpu (s : State) (ev : HostEvent) : (s.afterCall ev).cpu = s.cpu := rfl

@[simp] theorem State.afterCall_intPending (s : State) (ev : HostEvent) : (s.afterCall ev).intPending = (s.intPending || (s.hostReply ev).raiseInt) := rfl

@[simp] theorem State.afterCall_nmiPending (s : State) (ev : HostEvent) : (s.afterCall ev).nmiPending = (s.nmiPending || (s.hostReply ev).raiseNmi) := rfl

@[simp] theorem State.afterCall_iCount (s : State) (ev : HostEvent) : (s.afterCall ev).iCount = s.iCount := rfl

@[simp] theorem State.afterCall_iPeriod (s : State) (ev : HostEvent) : (s.afterCall ev).iPeriod = s.iPeriod := rfl

@[simp] theorem State.afterCall_iBackup (s : State) (ev : HostEvent) : (s.afterCall ev).iBackup = s.iBackup := rfl

@[simp] theorem State.afterCall_iElapsed (s : State) (ev : HostEvent) : (s.afterCall ev).iElapsed = s.iElapsed := rfl

@[simp] theorem State.afterCall_ioByte (s : State) (ev : HostEvent) : (s.afterCall ev).ioByte = s.ioByte := rfl

@[simp] theorem State.afterCall_subPage (s : State) (ev : HostEvent) : (s.afterCall ev).subPage = s.subPage := rfl

@[simp] theorem State.afterCall_romEnableMask (s : State) (ev : HostEvent) : (s.afterCall ev).romEnableMask = s.romEnableMask := rfl

@[simp] theorem State.afterCall_ram (s : State) (ev : HostEvent) : (s.afterCall ev).ram = s.ram := rfl

@[simp] theorem State.afterCall_monitorRom (s : State) (ev : HostEvent) : (s.afterCall ev).monitorRom = s.monitorRom := rfl

@[simp] theorem State.afterCall_rom (s : State) (ev : HostEvent) : (s.afterCall ev).rom = s.rom := rfl

@[simp] theorem State.afterCall_cfg (s : State) (ev : HostEvent) : (s.afterCall ev).cfg = s.cfg := rfl

@[simp] theorem State.afterCall_draws (s : State) (ev : HostEvent) : (s.afterCall ev).draws = s.draws := rfl

@[simp] theorem State.afterCall_hostReplies (s : State) (ev : HostEvent) : (s.afterCall ev).hostReplies = s.hostReplies.tail := rfl

@[simp] theorem State.afterCall_hostLog (s : State) (ev : HostEvent) : (s.afterCall ev).hostLog = ev :: s.hostLog := rfl

@[simp] theorem State.afterCall_readByte (s : State) (ev : HostEvent) (y : Word) :
    (s.afterCall ev).readByte y = s.readByte y := rfl

/-! ### `setIoByte` -/

@[simp] theorem State.setIoByte_cpu (s : State) (v : Byte) : (s.setIoByte v).cpu = s.cpu := rfl

@[simp] theorem State.setIoByte_intPending (s : State) (v : Byte) : (s.setIoByte v).intPending = s.intPending := rfl

@[simp] theorem State.setIoByte_nmiPending (s : State) (v : Byte) : (s.setIoByte v).nmiPending = s.nmiPending := rfl

@[simp] theorem State.setIoByte_iCount (s : State) (v : Byte) : (s.setIoByte v).iCount = s.iCount := rfl

@[simp] theorem State.setIoByte_iPeriod (s : State) (v : Byte) : (s.setIoByte v).iPeriod = s.iPeriod := rfl

@[simp] theorem State.setIoByte_iBackup (s : State) (v : Byte) : (s.setIoByte v).iBackup = s.iBackup := rfl

@[simp] theorem State.setIoByte_iElapsed (s : State) (v : Byte) : (s.setIoByte v).iElapsed = s.iElapsed := rfl

@[simp] theorem State.setIoByte_ioByte (s : State) (v : Byte) : (s.setIoByte v).ioByte = v := rfl

@[simp] theorem State.setIoByte_subPage (s : State) (v : Byte) : (s.setIoByte v).subPage = s.subPage := rfl

@[simp] theorem State.setIoByte_romEnableMask (s : State) (v : Byte) : (s.setIoByte v).romEnableMask = s.romEnableMask := rfl

@[simp] theorem State.setIoByte_ram (s : State) (v : Byte) : (s.setIoByte v).ram = s.ram := rfl

@[simp] theorem State.setIoByte_monitorRom (s : State) (v : Byte) : (s.setIoByte v).monitorRom = s.monitorRom := rfl

@[simp] theorem State.setIoByte_rom (s : State) (v : Byte) : (s.setIoByte v).rom = s.rom := rfl

@[simp] theorem State.setIoByte_cfg (s : State) (v : Byte) : (s.setIoByte v).cfg = s.cfg := rfl

@[simp] theorem State.setIoByte_draws (s : State) (v : Byte) : (s.setIoByte v).draws = s.draws := rfl

@[simp] theorem State.setIoByte_hostReplies (s : State) (v : Byte) : (s.setIoByte v).hostReplies = s.hostReplies := rfl

@[simp] theorem State.setIoByte_hostLog (s : State) (v : Byte) : (s.setIoByte v).hostLog = s.hostLog := rfl

/-! ### `setRomSubPage` -/

@[simp] theorem State.setRomSubPage_cpu (s : State) (v : Byte) : (s.setRomSubPage v).cpu = s.cpu := rfl

@[simp] theorem State.setRomSubPage_intPending (s : State) (v : Byte) : (s.setRomSubPage v).intPending = s.intPending := rfl

@[simp] theorem State.setRomSubPage_nmiPending (s : State) (v : Byte) : (s.setRomSubPage v).nmiPending = s.nmiPending := rfl

@[simp] theorem State.setRomSubPage_iCount (s : State) (v : Byte) : (s.setRomSubPage v).iCount = s.iCount := rfl

@[simp] theorem State.setRomSubPage_iPeriod (s : State) (v : Byte) : (s.setRomSubPage v).iPeriod = s.iPeriod := rfl

@[simp] theorem State.setRomSubPage_iBackup (s : State) (v : Byte) : (s.setRomSubPage v).iBackup = s.iBackup := rfl

@[simp] theorem State.setRomSubPage_iElapsed (s : State) (v : Byte) : (s.setRomSubPage v).iElapsed = s.iElapsed := rfl

@[simp] theorem State.setRomSubPage_ioByte (s : State) (v : Byte) : (s.setRomSubPage v).ioByte = s.ioByte := rfl

@[simp] theorem State.setRomSubPage_subPage (s : State) (v : Byte) : (s.setRomSubPage v).subPage = v := rfl

@[simp] theorem State.setRomSubPage_romEnableMask (s : State) (v : Byte) : (s.setRomSubPage v).romEnableMask = s.romEnableMask := rfl

@[simp] theorem State.setRomSubPage_ram (s : State) (v : Byte) : (s.setRomSubPage v).ram = s.ram := rfl

@[simp] theorem State.setRomSubPage_monitorRom (s : State) (v : Byte) : (s.setRomSubPage v).monitorRom = s.monitorRom := rfl

@[simp] theorem State.setRomSubPage_rom (s : State) (v : Byte) : (s.setRomSubPage v).rom = s.rom := rfl

@[simp] theorem State.setRomSubPage_cfg (s : State) (v : Byte) : (s.setRomSubPage v).cfg = s.cfg := rfl

@[simp] theorem State.setRomSubPage_draws (s : State) (v : Byte) : (s.setRomSubPage v).draws = s.draws := rfl

@[simp] theorem State.setRomSubPage_hostReplies (s : State) (v : Byte) : (s.setRomSubPage v).hostReplies = s.hostReplies := rfl

@[simp] theorem State.setRomSubPage_hostLog (s : State) (v : Byte) : (s.setRomSubPage v).hostLog = s.hostLog := rfl

/-! ### `setRomEnableMask` -/

@[simp] theorem State.setRomEnableMask_cpu (s : State) (v : Byte) : (s.setRomEnableMask v).cpu = s.cpu := rfl

@[simp] theorem State.setRomEnableMask_intPending (s : State) (v : Byte) : (s.setRomEnableMask v).intPending = s.intPending := rfl

@[simp] theorem State.setRomEnableMask_nmiPending (s : State) (v : Byte) : (s.setRomEnableMask v).nmiPending = s.nmiPending := rfl

@[simp] theorem State.setRomEnableMask_iCount (s : State) (v : Byte) : (s.setRomEnableMask v).iCount = s.iCount := rfl

@[simp] theorem State.setRomEnableMask_iPeriod (s : State) (v : Byte) : (s.setRomEnableMask v).iPeriod = s.iPeriod := rfl

@[simp] theorem State.setRomEnableMask_iBackup (s : State) (v : Byte) : (s.setRomEnableMask v).iBackup = s.iBackup := rfl

@[simp] theorem State.setRomEnableMask_iElapsed (s : State) (v : Byte) : (s.setRomEnableMask v).iElapsed = s.iElapsed := rfl

@[simp] theorem State.setRomEnableMask_ioByte (s : State) (v : Byte) : (s.setRomEnableMask v).ioByte = s.ioByte := rfl

@[simp] theorem State.setRomEnableMask_subPage (s : State) (v : Byte) : (s.setRomEnableMask v).subPage = s.subPage := rfl

@[simp] theorem State.setRomEnableMask_romEnableMask (s : State) (v : Byte) : (s.setRomEnableMask v).romEnableMask = v := rfl

@[simp] theorem State.setRomEnableMask_ram (s : State) (v : Byte) : (s.setRomEnableMask v).ram = s.ram := rfl

@[simp] theorem State.setRomEnableMask_monitorRom (s : State) (v : Byte) : (s.setRomEnableMask v).monitorRom = s.monitorRom := rfl

@[simp] theorem State.setRomEnableMask_rom (s : State) (v : Byte) : (s.setRomEnableMask v).rom = s.rom := rfl

@[simp] theorem State.setRomEnableMask_cfg (s : State) (v : Byte) : (s.setRomEnableMask v).cfg = s.cfg := rfl

@[simp] theorem State.setRomEnableMask_draws (s : State) (v : Byte) : (s.setRomEnableMask v).draws = s.draws := rfl

@[simp] theorem State.setRomEnableMask_hostReplies (s : State) (v : Byte) : (s.setRomEnableMask v).hostReplies = s.hostReplies := rfl

@[simp] theorem State.setRomEnableMask_hostLog (s : State) (v : Byte) : (s.setRomEnableMask v).hostLog = s.hostLog := rfl

/-! ### Registers and pairs after a write -/

@[simp] theorem State.setReg8_same (s : State) (r : Reg8) (v : Byte) : (s.setReg8 r v).reg8 r = v := by
  cases r <;> rfl

theorem State.setReg8_other (s : State) (r q : Reg8) (v : Byte) (h : q ≠ r) : (s.setReg8 r v).reg8 q = s.reg8 q := by
  cases r <;> cases q <;> first | rfl | exact absurd rfl h

@[simp] theorem State.setReg8_f (s : State) (r : Reg8) (v : Byte) : (s.setReg8 r v).cpu.main.f = s.cpu.main.f := by
  cases r <;> rfl

theorem State.setReg8_cpu (s : State) (r : Reg8) (v : Byte) :
    (s.setReg8 r v).cpu = { s.cpu with main := (s.setReg8 r v).cpu.main } := rfl

@[simp] theorem State.setIndex_same (s : State) (x : IndexReg) (v : Word) : (s.setIndex x v).index x = v := by
  cases x <;> rfl

theorem State.setIndex_other (s : State) (x y : IndexReg) (v : Word) (h : y ≠ x) :
    (s.setIndex x v).index y = s.index y := by
  cases x <;> cases y <;> first | rfl | exact absurd rfl h

theorem joinBytes_toNat (h l : Byte) : (joinBytes h l).toNat = 256 * h.toNat + l.toNat := by
  have hl := l.isLt
  simp only [joinBytes, BitVec.toNat_append]
  rw [← Nat.shiftLeft_add_eq_or_of_lt hl, Nat.shiftLeft_eq]
  omega

theorem highByte_toNat (v : Word) : (highByte v).toNat = v.toNat / 256 := by
  have hv := v.isLt
  simp only [highByte, BitVec.extractLsb'_toNat, Nat.shiftRight_eq_div_pow]
  omega

theorem lowByte_toNat (v : Word) : (lowByte v).toNat = v.toNat % 256 := by
  simp [lowByte, BitVec.extractLsb'_toNat]

theorem joinBytes_halves (v : Word) : joinBytes (highByte v) (lowByte v) = v := by
  apply BitVec.eq_of_toNat_eq
  rw [joinBytes_toNat, highByte_toNat, lowByte_toNat]
  omega

@[simp] theorem highByte_joinBytes (h l : Byte) : highByte (joinBytes h l) = h := by
  apply BitVec.eq_of_toNat_eq
  have := l.isLt
  rw [highByte_toNat, joinBytes_toNat]
  omega

@[simp] theorem lowByte_joinBytes (h l : Byte) : lowByte (joinBytes h l) = l := by
  apply BitVec.eq_of_toNat_eq
  have := l.isLt
  rw [lowByte_toNat, joinBytes_toNat]
  omega

theorem State.setPair_same (s : State) (p : Pair) (v : Word) : (s.setPair p v).pair p = v := by
  cases p <;> first | rfl | exact joinBytes_halves v

theorem State.setPair_other (s : State) (p q : Pair) (v : Word) (h : q ≠ p) : (s.setPair p v).pair q = s.pair q := by
  cases p <;> cases q <;> first | rfl | exact absurd rfl h

/-! ### What a pair or an index register leaves of the main bank -/

@[simp] theorem State.setPair_main_a (s : State) (p : Pair) (v : Word) : (s.setPair p v).cpu.main.a = s.cpu.main.a := by
  cases p <;> rfl

@[simp] theorem State.setPair_main_f (s : State) (p : Pair) (v : Word) : (s.setPair p v).cpu.main.f = s.cpu.main.f := by
  cases p <;> rfl

@[simp] theorem State.setIndex_main (s : State) (x : IndexReg) (v : Word) : (s.setIndex x v).cpu.main = s.cpu.main := by
  cases x <;> rfl

/-! ### The flag register as a byte -/

theorem Flags.ofByte_toByte (f : Flags) : Flags.ofByte f.toByte = f := by
  obtain ⟨s, z, y, h, x, pv, n, c⟩ := f
  cases s <;> cases z <;> cases y <;> cases h <;> cases x <;> cases pv <;> cases n <;> cases c <;> rfl

theorem Flags.toByte_ofByte (b : Byte) : (Flags.ofByte b).toByte = b := by
  revert b
  decide

end Sys2Proof.Machine
end

