-- ==== Sys2Proof/Laws/Memory.lean ====
section
/-! SUPPORT. The memory arrays and the machine's memory: a read after a write, the canonical form kept by every memory
operation, and what a write leaves unchanged. -/

namespace Sys2Proof.Machine

/-! ### Arrays -/

@[simp] theorem Memory.read_nil (a : Nat) : Memory.read [] a = unlistedByte := rfl

theorem Memory.read_cons (k : Nat) (v : Byte) (m : Memory) (a : Nat) :
    Memory.read ((k, v) :: m) a = if k = a then v else Memory.read m a := rfl

theorem Memory.erase_cons (k : Nat) (v : Byte) (m : Memory) (a : Nat) :
    Memory.erase ((k, v) :: m) a = if k = a then Memory.erase m a else (k, v) :: Memory.erase m a := by
  by_cases h : k = a <;> simp [Memory.erase, h]

theorem Memory.read_erase (m : Memory) (a b : Nat) :
    (Memory.erase m a).read b = if b = a then unlistedByte else m.read b := by
  induction m with
  | nil => simp [Memory.erase]
  | cons c m ih =>
    obtain ⟨k, v⟩ := c
    rw [Memory.erase_cons]
    by_cases hk : k = a
    · rw [if_pos hk, ih, Memory.read_cons]
      by_cases hb : b = a
      · simp [hb]
      · have : ¬ k = b := by omega
        simp [hb, this]
    · rw [if_neg hk, Memory.read_cons, Memory.read_cons, ih]
      by_cases hb : b = a
      · have : ¬ k = b := by omega
        simp [hb, hk]
      · simp [hb]

theorem Memory.read_insert (m : Memory) (a : Nat) (v : Byte) (h : ∀ c ∈ m, c.1 ≠ a) (b : Nat) :
    (Memory.insert m a v).read b = if b = a then v else m.read b := by
  induction m with
  | nil =>
    by_cases hb : b = a
    · simp [Memory.insert, Memory.read, hb]
    · have : ¬ a = b := fun e => hb e.symm
      simp [Memory.insert, Memory.read, hb, this]
  | cons c m ih =>
    obtain ⟨k, w⟩ := c
    have hk : k ≠ a := h (k, w) (by simp)
    have ih := ih fun c hc => h c (by simp [hc])
    unfold Memory.insert
    split
    · rw [Memory.read_cons]
      by_cases hb : b = a
      · simp [hb]
      · have : ¬ a = b := fun e => hb e.symm
        simp [hb, this]
    · rw [Memory.read_cons, Memory.read_cons, ih]
      by_cases hb : b = a
      · have : ¬ k = b := by omega
        simp [hb, hk]
      · simp [hb]

theorem Memory.erase_absent (m : Memory) (a : Nat) : ∀ c ∈ Memory.erase m a, c.1 ≠ a := by
  intro c hc
  simpa [Memory.erase] using (List.mem_filter.mp hc).2

/-- A read after a write: the value at the cell written, and what was there at every other. -/
theorem Memory.read_write (m : Memory) (a : Nat) (v : Byte) (b : Nat) :
    (m.write a v).read b = if b = a then v else m.read b := by
  unfold Memory.write
  split
  · next h => rw [Memory.read_erase, h]
  · rw [Memory.read_insert _ _ _ (Memory.erase_absent m a), Memory.read_erase]
    by_cases hb : b = a <;> simp [hb]

theorem Memory.wf_nil : Memory.wf [] := ⟨List.Pairwise.nil, by simp⟩

theorem Memory.erase_wf (m : Memory) (a : Nat) (h : m.wf) : (Memory.erase m a).wf :=
  ⟨h.1.filter _, fun c hc => h.2 c (List.mem_filter.mp hc).1⟩

theorem Memory.mem_insert (m : Memory) (a : Nat) (v : Byte) (c : Host.Cell) (h : c ∈ Memory.insert m a v) :
    c = (a, v) ∨ c ∈ m := by
  induction m with
  | nil => simpa [Memory.insert] using h
  | cons d m ih =>
    obtain ⟨k, w⟩ := d
    unfold Memory.insert at h
    split at h
    · simpa using h
    · rcases List.mem_cons.mp h with rfl | h
      · simp
      · rcases ih h with h | h
        · exact .inl h
        · exact .inr (List.mem_cons_of_mem _ h)

/-- A write lists no cell but its own and those listed before. -/
theorem Memory.mem_write (m : Memory) (a : Nat) (v : Byte) (c : Host.Cell) (h : c ∈ m.write a v) : c.1 = a ∨ c ∈ m := by
  have he : ∀ x ∈ Memory.erase m a, x ∈ m := fun x hx => List.mem_of_mem_filter hx
  unfold Memory.write at h
  split at h
  · exact .inr (he c h)
  · rcases Memory.mem_insert _ a v c h with h | h
    · exact .inl (by rw [h])
    · exact .inr (he c h)

theorem Memory.insert_wf (m : Memory) (a : Nat) (v : Byte) (h : m.wf) (ha : ∀ c ∈ m, c.1 ≠ a) (hv : v ≠ unlistedByte) :
    (Memory.insert m a v).wf := by
  induction m with
  | nil => exact ⟨by simp [Memory.insert], by simpa [Memory.insert] using hv⟩
  | cons d m ih =>
    obtain ⟨k, w⟩ := d
    have hp := List.pairwise_cons.mp h.1
    have hm : Memory.wf m := ⟨hp.2, fun c hc => h.2 c (List.mem_cons_of_mem _ hc)⟩
    have ha' : ∀ c ∈ m, c.1 ≠ a := fun c hc => ha c (List.mem_cons_of_mem _ hc)
    have hk : k ≠ a := ha (k, w) (by simp)
    unfold Memory.insert
    split
    · next hlt =>
      refine ⟨List.pairwise_cons.mpr ⟨?_, h.1⟩, ?_⟩
      · intro c hc
        rcases List.mem_cons.mp hc with rfl | hc
        · exact hlt
        · exact Nat.lt_trans hlt (hp.1 c hc)
      · intro c hc
        rcases List.mem_cons.mp hc with rfl | hc
        · exact hv
        · exact h.2 c hc
    · next hge =>
      have iw := ih hm ha'
      refine ⟨List.pairwise_cons.mpr ⟨?_, iw.1⟩, ?_⟩
      · intro c hc
        rcases Memory.mem_insert m a v c hc with rfl | hc
        · show k < a
          omega
        · exact hp.1 c hc
      · intro c hc
        rcases List.mem_cons.mp hc with rfl | hc
        · exact h.2 (k, w) (by simp)
        · exact iw.2 c hc

/-- A write keeps the canonical form. -/
theorem Memory.write_wf (m : Memory) (a : Nat) (v : Byte) (h : m.wf) : (m.write a v).wf := by
  unfold Memory.write
  split
  · exact Memory.erase_wf m a h
  · next hv => exact Memory.insert_wf _ a v (Memory.erase_wf m a h) (Memory.erase_absent m a) hv

theorem Memory.read_of_mem (m : Memory) (h : m.wf) (c : Host.Cell) (hc : c ∈ m) : m.read c.1 = c.2 := by
  induction m with
  | nil => simp at hc
  | cons d m ih =>
    obtain ⟨k, w⟩ := d
    have hp := List.pairwise_cons.mp h.1
    rw [Memory.read_cons]
    rcases List.mem_cons.mp hc with rfl | hc
    · simp
    · have : k < c.1 := hp.1 c hc
      rw [if_neg (by omega)]
      exact ih ⟨hp.2, fun c hc => h.2 c (List.mem_cons_of_mem _ hc)⟩ hc

theorem Memory.read_below (m : Memory) (a : Nat) (h : ∀ c ∈ m, a < c.1) : m.read a = unlistedByte := by
  induction m with
  | nil => rfl
  | cons d m ih =>
    obtain ⟨k, w⟩ := d
    have : a < k := h (k, w) (by simp)
    rw [Memory.read_cons, if_neg (by omega)]
    exact ih fun c hc => h c (List.mem_cons_of_mem _ hc)

/-- Two memories in canonical form that read alike are the same data. -/
theorem Memory.ext_read (m n : Memory) (hm : m.wf) (hn : n.wf) (h : ∀ a, m.read a = n.read a) : m = n := by
  induction m generalizing n with
  | nil =>
    cases n with
    | nil => rfl
    | cons d n =>
      exact absurd ((Memory.read_of_mem _ hn d (by simp)).symm.trans (h d.1).symm) (hn.2 d (by simp))
  | cons c m ih =>
    cases n with
    | nil => exact absurd ((Memory.read_of_mem _ hm c (by simp)).symm.trans (h c.1)) (hm.2 c (by simp))
    | cons d n =>
      obtain ⟨k, v⟩ := c
      obtain ⟨j, w⟩ := d
      have pm := List.pairwise_cons.mp hm.1
      have pn := List.pairwise_cons.mp hn.1
      have wm : Memory.wf m := ⟨pm.2, fun c hc => hm.2 c (List.mem_cons_of_mem _ hc)⟩
      have wn : Memory.wf n := ⟨pn.2, fun c hc => hn.2 c (List.mem_cons_of_mem _ hc)⟩
      have hv := hm.2 (k, v) (by simp)
      have hw := hn.2 (j, w) (by simp)
      have hkj : k = j := by
        rcases Nat.lt_trichotomy k j with hlt | heq | hgt
        · have := h k
          rw [Memory.read_cons, if_pos rfl, Memory.read_below ((j, w) :: n)] at this
          · exact absurd this hv
          · intro c hc
            rcases List.mem_cons.mp hc with rfl | hc
            · exact hlt
            · exact Nat.lt_trans hlt (pn.1 c hc)
        · exact heq
        · have := h j
          rw [Memory.read_cons (k := j), if_pos rfl, Memory.read_below ((k, v) :: m)] at this
          · exact absurd this.symm hw
          · intro c hc
            rcases List.mem_cons.mp hc with rfl | hc
            · exact hgt
            · exact Nat.lt_trans hgt (pm.1 c hc)
      subst hkj
      have hvw : v = w := by simpa [Memory.read_cons] using h k
      subst hvw
      rw [ih n wm wn]
      intro a
      by_cases ha : k = a
      · subst ha
        rw [Memory.read_below m k pm.1, Memory.read_below n k pn.1]
      · simpa [Memory.read_cons, ha] using h a

/-! ### The machine's memory -/

/-- What the read of a byte depends on. -/
theorem State.readByte_congr (s t : State) (hr : t.ram = s.ram) (hm : t.monitorRom = s.monitorRom) (ho : t.rom = s.rom)
    (hi : t.ioByte = s.ioByte) (hs : t.subPage = s.subPage) (he : t.romEnableMask = s.romEnableMask) (hc : t.cfg = s.cfg)
    (a : Word) : t.readByte a = s.readByte a := by
  unfold State.readByte State.readTarget State.readTable State.ramTarget State.ramMap State.pageExists State.slotEnabled
    State.page State.slot State.romRam
  rw [hr, hm, ho, hi, hs, he, hc]

theorem State.writeTarget_cpu (s : State) (t : Target) (o : Nat) (v : Byte) : (s.writeTarget t o v).cpu = s.cpu := by
  cases t <;> rfl

/-- The targets of the write table: a CPU write never goes to ROM (R84). -/
theorem State.writeTable_cases (s : State) (k : Nat) :
    s.writeTable k = .subpage ∧ k = 0 ∧ s.romRam = true ∨ s.writeTable k = .vapour ∨
      ∃ b, s.ramMap (k / 2) = some b ∧ s.writeTable k = .ram b (k % 2) := by
  unfold State.writeTable State.ramTarget
  by_cases h0 : (s.romRam && k == 0) = true
  · simp only [h0, if_true]
    simp at h0
    exact .inl ⟨trivial, h0.2, h0.1⟩
  · by_cases h1 : (s.romRam && k == 1) = true
    · simp only [h0, h1, if_true]
      exact .inr (.inl (by simp))
    · simp only [h0, h1]
      cases h : s.ramMap (k / 2) with
      | none => exact .inr (.inl (by simp))
      | some b => exact .inr (.inr ⟨b, rfl, by simp⟩)

/-- Where a CPU write goes, by its target (R84). -/
theorem State.writeByte_cases (s : State) (a : Word) (v : Byte) :
    (s.writeTable (entryOf a) = .subpage ∧ s.writeByte a v = { s with subPage := v }) ∨
    (s.writeTable (entryOf a) = .vapour ∧ s.writeByte a v = s) ∨
    ∃ b h, h < 2 ∧ s.writeTable (entryOf a) = .ram b h ∧
      s.writeByte a v = { s with ram := s.ram.write (ramIndex b h (offsetOf a)) v } := by
  rcases s.writeTable_cases (entryOf a) with ⟨h, _, _⟩ | h | ⟨b, _, h⟩
  · exact .inl ⟨h, by simp only [State.writeByte, h]; rfl⟩
  · exact .inr (.inl ⟨h, by simp only [State.writeByte, h]; rfl⟩)
  · exact .inr (.inr ⟨b, entryOf a % 2, by omega, h, by simp only [State.writeByte, h]; rfl⟩)

/-! ### Every field a CPU write leaves alone -/

@[simp] theorem State.writeByte_cpu (s : State) (a : Word) (v : Byte) : (s.writeByte a v).cpu = s.cpu := by
  rcases s.writeByte_cases a v with ⟨_, h⟩ | ⟨_, h⟩ | ⟨_, _, _, _, h⟩ <;> rw [h]

@[simp] theorem State.writeByte_intPending (s : State) (a : Word) (v : Byte) : (s.writeByte a v).intPending = s.intPending := by
  rcases s.writeByte_cases a v with ⟨_, h⟩ | ⟨_, h⟩ | ⟨_, _, _, _, h⟩ <;> rw [h]

@[simp] theorem State.writeByte_nmiPending (s : State) (a : Word) (v : Byte) : (s.writeByte a v).nmiPending = s.nmiPending := by
  rcases s.writeByte_cases a v with ⟨_, h⟩ | ⟨_, h⟩ | ⟨_, _, _, _, h⟩ <;> rw [h]

@[simp] theorem State.writeByte_iCount (s : State) (a : Word) (v : Byte) : (s.writeByte a v).iCount = s.iCount := by
  rcases s.writeByte_cases a v with ⟨_, h⟩ | ⟨_, h⟩ | ⟨_, _, _, _, h⟩ <;> rw [h]

@[simp] theorem State.writeByte_iPeriod (s : State) (a : Word) (v : Byte) : (s.writeByte a v).iPeriod = s.iPeriod := by
  rcases s.writeByte_cases a v with ⟨_, h⟩ | ⟨_, h⟩ | ⟨_, _, _, _, h⟩ <;> rw [h]

@[simp] theorem State.writeByte_iBackup (s : State) (a : Word) (v : Byte) : (s.writeByte a v).iBackup = s.iBackup := by
  rcases s.writeByte_cases a v with ⟨_, h⟩ | ⟨_, h⟩ | ⟨_, _, _, _, h⟩ <;> rw [h]

@[simp] theorem State.writeByte_iElapsed (s : State) (a : Word) (v : Byte) : (s.writeByte a v).iElapsed = s.iElapsed := by
  rcases s.writeByte_cases a v with ⟨_, h⟩ | ⟨_, h⟩ | ⟨_, _, _, _, h⟩ <;> rw [h]

@[simp] theorem State.writeByte_ioByte (s : State) (a : Word) (v : Byte) : (s.writeByte a v).ioByte = s.ioByte := by
  rcases s.writeByte_cases a v with ⟨_, h⟩ | ⟨_, h⟩ | ⟨_, _, _, _, h⟩ <;> rw [h]

@[simp] theorem State.writeByte_romEnableMask (s : State) (a : Word) (v : Byte) : (s.writeByte a v).romEnableMask = s.romEnableMask := by
  rcases s.writeByte_cases a v with ⟨_, h⟩ | ⟨_, h⟩ | ⟨_, _, _, _, h⟩ <;> rw [h]

@[simp] theorem State.writeByte_monitorRom (s : State) (a : Word) (v : Byte) : (s.writeByte a v).monitorRom = s.monitorRom := by
  rcases s.writeByte_cases a v with ⟨_, h⟩ | ⟨_, h⟩ | ⟨_, _, _, _, h⟩ <;> rw [h]

@[simp] theorem State.writeByte_rom (s : State) (a : Word) (v : Byte) : (s.writeByte a v).rom = s.rom := by
  rcases s.writeByte_cases a v with ⟨_, h⟩ | ⟨_, h⟩ | ⟨_, _, _, _, h⟩ <;> rw [h]

@[simp] theorem State.writeByte_cfg (s : State) (a : Word) (v : Byte) : (s.writeByte a v).cfg = s.cfg := by
  rcases s.writeByte_cases a v with ⟨_, h⟩ | ⟨_, h⟩ | ⟨_, _, _, _, h⟩ <;> rw [h]

@[simp] theorem State.writeByte_draws (s : State) (a : Word) (v : Byte) : (s.writeByte a v).draws = s.draws := by
  rcases s.writeByte_cases a v with ⟨_, h⟩ | ⟨_, h⟩ | ⟨_, _, _, _, h⟩ <;> rw [h]

@[simp] theorem State.writeByte_hostReplies (s : State) (a : Word) (v : Byte) : (s.writeByte a v).hostReplies = s.hostReplies := by
  rcases s.writeByte_cases a v with ⟨_, h⟩ | ⟨_, h⟩ | ⟨_, _, _, _, h⟩ <;> rw [h]

@[simp] theorem State.writeByte_hostLog (s : State) (a : Word) (v : Byte) : (s.writeByte a v).hostLog = s.hostLog := by
  rcases s.writeByte_cases a v with ⟨_, h⟩ | ⟨_, h⟩ | ⟨_, _, _, _, h⟩ <;> rw [h]

@[simp] theorem State.writeWord_cpu (s : State) (a v : Word) : (s.writeWord a v).cpu = s.cpu := by
  simp [State.writeWord]

@[simp] theorem State.writeWord_intPending (s : State) (a v : Word) : (s.writeWord a v).intPending = s.intPending := by
  simp [State.writeWord]

@[simp] theorem State.writeWord_nmiPending (s : State) (a v : Word) : (s.writeWord a v).nmiPending = s.nmiPending := by
  simp [State.writeWord]

@[simp] theorem State.writeWord_iCount (s : State) (a v : Word) : (s.writeWord a v).iCount = s.iCount := by
  simp [State.writeWord]

@[simp] theorem State.writeWord_iPeriod (s : State) (a v : Word) : (s.writeWord a v).iPeriod = s.iPeriod := by
  simp [State.writeWord]

@[simp] theorem State.writeWord_iBackup (s : State) (a v : Word) : (s.writeWord a v).iBackup = s.iBackup := by
  simp [State.writeWord]

@[simp] theorem State.writeWord_iElapsed (s : State) (a v : Word) : (s.writeWord a v).iElapsed = s.iElapsed := by
  simp [State.writeWord]

@[simp] theorem State.writeWord_ioByte (s : State) (a v : Word) : (s.writeWord a v).ioByte = s.ioByte := by
  simp [State.writeWord]

@[simp] theorem State.writeWord_romEnableMask (s : State) (a v : Word) : (s.writeWord a v).romEnableMask = s.romEnableMask := by
  simp [State.writeWord]

@[simp] theorem State.writeWord_monitorRom (s : State) (a v : Word) : (s.writeWord a v).monitorRom = s.monitorRom := by
  simp [State.writeWord]

@[simp] theorem State.writeWord_rom (s : State) (a v : Word) : (s.writeWord a v).rom = s.rom := by
  simp [State.writeWord]

@[simp] theorem State.writeWord_cfg (s : State) (a v : Word) : (s.writeWord a v).cfg = s.cfg := by
  simp [State.writeWord]

@[simp] theorem State.writeWord_draws (s : State) (a v : Word) : (s.writeWord a v).draws = s.draws := by
  simp [State.writeWord]

@[simp] theorem State.writeWord_hostReplies (s : State) (a v : Word) : (s.writeWord a v).hostReplies = s.hostReplies := by
  simp [State.writeWord]

@[simp] theorem State.writeWord_hostLog (s : State) (a v : Word) : (s.writeWord a v).hostLog = s.hostLog := by
  simp [State.writeWord]

/-! ### The stack -/

@[simp] theorem State.push16_cpu (s : State) (v : Word) : (s.push16 v).cpu = { s.cpu with sp := s.cpu.sp - 2 } := by
  simp [State.push16]

@[simp] theorem State.push16_intPending (s : State) (v : Word) : (s.push16 v).intPending = s.intPending := by
  simp [State.push16]

@[simp] theorem State.push16_nmiPending (s : State) (v : Word) : (s.push16 v).nmiPending = s.nmiPending := by
  simp [State.push16]

@[simp] theorem State.push16_iCount (s : State) (v : Word) : (s.push16 v).iCount = s.iCount := by
  simp [State.push16]

@[simp] theorem State.push16_iPeriod (s : State) (v : Word) : (s.push16 v).iPeriod = s.iPeriod := by
  simp [State.push16]

@[simp] theorem State.push16_iBackup (s : State) (v : Word) : (s.push16 v).iBackup = s.iBackup := by
  simp [State.push16]

@[simp] theorem State.push16_iElapsed (s : State) (v : Word) : (s.push16 v).iElapsed = s.iElapsed := by
  simp [State.push16]

@[simp] theorem State.push16_ioByte (s : State) (v : Word) : (s.push16 v).ioByte = s.ioByte := by
  simp [State.push16]

@[simp] theorem State.push16_romEnableMask (s : State) (v : Word) : (s.push16 v).romEnableMask = s.romEnableMask := by
  simp [State.push16]

@[simp] theorem State.push16_monitorRom (s : State) (v : Word) : (s.push16 v).monitorRom = s.monitorRom := by
  simp [State.push16]

@[simp] theorem State.push16_rom (s : State) (v : Word) : (s.push16 v).rom = s.rom := by
  simp [State.push16]

@[simp] theorem State.push16_cfg (s : State) (v : Word) : (s.push16 v).cfg = s.cfg := by
  simp [State.push16]

@[simp] theorem State.push16_draws (s : State) (v : Word) : (s.push16 v).draws = s.draws := by
  simp [State.push16]

@[simp] theorem State.push16_hostReplies (s : State) (v : Word) : (s.push16 v).hostReplies = s.hostReplies := by
  simp [State.push16]

@[simp] theorem State.push16_hostLog (s : State) (v : Word) : (s.push16 v).hostLog = s.hostLog := by
  simp [State.push16]
end Sys2Proof.Machine
end

