-- ==== Sys2Proof/Laws/MemoryMap.lean ====
section
/-! SUPPORT. The memory map: which cells the tables' targets are, what a read gives after a write, and that every memory
operation keeps the canonical form. -/

namespace Sys2Proof.Machine

/-! ### Cells -/

theorem offsetOf_lt (a : Word) : offsetOf a < 0x2000 := Nat.mod_lt _ (by decide)

theorem ramIndex_inj (b h o b' h' o' : Nat) (hh : h < 2) (ho : o < 0x2000) (hh' : h' < 2) (ho' : o' < 0x2000)
    (e : ramIndex b h o = ramIndex b' h' o') : b = b' ∧ h = h' ∧ o = o' := by
  unfold ramIndex at e
  omega

theorem romIndex_inj (s p o o' : Nat) (e : romIndex s p o = romIndex s p o') : o = o' := by
  unfold romIndex at e
  omega

theorem State.ramTarget_cases (s : State) (u : Target) (k : Nat) :
    s.ramTarget u k = u ∨ ∃ b, s.ramTarget u k = .ram b (k % 2) := by
  unfold State.ramTarget
  cases s.ramMap (k / 2) with
  | none => exact .inl rfl
  | some b => exact .inr ⟨b, rfl⟩

/-- The targets of the read table (R90, R91). -/
theorem State.readTable_cases (s : State) (k : Nat) :
    s.readTable k = .mon ∧ k = 0 ∨ s.readTable k = .rom s.slot s.page ∧ k = 1 ∨ s.readTable k = .high ∨
      ∃ b, s.readTable k = .ram b (k % 2) := by
  unfold State.readTable
  by_cases h0 : (s.romRam && k == 0) = true
  · simp only [h0, if_true]
    simp at h0
    exact .inl ⟨trivial, h0.2⟩
  · by_cases h1 : (s.romRam && k == 1) = true
    · simp only [h0, h1, if_true]
      simp at h1
      by_cases h2 : (s.pageExists && s.slotEnabled) = true
      · simp only [h2, if_true]
        exact .inr (.inl ⟨by simp, h1.2⟩)
      · simp only [h2]
        exact .inr (.inr (.inl (by simp)))
    · simp only [h0, h1]
      rcases s.ramTarget_cases .high k with h | ⟨b, h⟩ <;> rw [h] <;> simp

theorem State.readTable_ram (s : State) (k b h : Nat) (e : s.readTable k = .ram b h) : h = k % 2 := by
  rcases s.readTable_cases k with ⟨h', _⟩ | ⟨h', _⟩ | h' | ⟨b', h'⟩ <;> rw [h'] at e <;> simp at e
  exact e.2.symm

/-- The RAM entries of the tables agree (R91, R92). -/
theorem State.writeTable_ram (s : State) (k b h : Nat) (e : s.writeTable k = .ram b h) :
    s.readTable k = .ram b h ∧ h < 2 := by
  have hlt : h < 2 := by
    rcases s.writeTable_cases k with ⟨h', _⟩ | h' | ⟨b', _, h'⟩ <;> rw [h'] at e <;> simp at e
    omega
  refine ⟨?_, hlt⟩
  unfold State.writeTable at e
  unfold State.readTable
  by_cases h0 : (s.romRam && k == 0) = true
  · simp [h0] at e
  · by_cases h1 : (s.romRam && k == 1) = true
    · simp [h0, h1] at e
    · simp only [h0, h1] at e ⊢
      unfold State.ramTarget at e ⊢
      cases hm : s.ramMap (k / 2) <;> simp_all

/-- Only entry 1 depends on the sub-page, and only while slot 2 is selected (R91, R97). -/
theorem State.readTable_subPage (s : State) (v : Byte) (k : Nat) (h : k ≠ 1 ∨ s.slot ≠ 2) :
    ({ s with subPage := v } : State).readTable k = s.readTable k := by
  unfold State.readTable
  rcases h with h | h
  · have : (k == 1) = false := by simpa using h
    simp only [this, Bool.and_false]
    rfl
  · have hp : ({ s with subPage := v } : State).page = s.page := by
      unfold State.page
      have : ({ s with subPage := v } : State).slot = s.slot := rfl
      rw [this, if_neg h, if_neg h]
    unfold State.pageExists
    rw [hp]
    rfl

theorem State.readByte_subPage (s : State) (v : Byte) (x : Word) (h : entryOf x ≠ 1 ∨ s.slot ≠ 2) :
    ({ s with subPage := v } : State).readByte x = s.readByte x := by
  unfold State.readByte
  rw [s.readTable_subPage v _ h]
  rfl

/-- A read after a write to a RAM cell. -/
theorem State.readByte_ramWrite (s : State) (b h o : Nat) (v : Byte) (hh : h < 2) (ho : o < 0x2000) (x : Word) :
    ({ s with ram := s.ram.write (ramIndex b h o) v } : State).readByte x =
      if s.readTable (entryOf x) = .ram b h ∧ offsetOf x = o then v else s.readByte x := by
  have ht : ({ s with ram := s.ram.write (ramIndex b h o) v } : State).readTable (entryOf x) = s.readTable (entryOf x) :=
    rfl
  unfold State.readByte
  rw [ht]
  cases e : s.readTable (entryOf x) with
  | ram b' h' =>
    show (s.ram.write (ramIndex b h o) v).read (ramIndex b' h' (offsetOf x)) = _
    have hh' : h' < 2 := by
      have := s.readTable_ram _ _ _ e
      omega
    rw [Memory.read_write]
    by_cases hc : ramIndex b' h' (offsetOf x) = ramIndex b h o
    · obtain ⟨rfl, rfl, hx⟩ := ramIndex_inj _ _ _ _ _ _ hh' (offsetOf_lt x) hh ho hc
      rw [if_pos hc, if_pos ⟨rfl, hx⟩]
    · rw [if_neg hc, if_neg]
      · rfl
      · rintro ⟨e', hx⟩
        apply hc
        simp only [Target.ram.injEq] at e'
        rw [e'.1, e'.2, hx]
  | _ => simp [State.readTarget]

/-- What a CPU write leaves unchanged: every address it does not touch. -/
theorem State.readByte_writeByte (s : State) (a : Word) (v : Byte) (x : Word) (h : ¬ s.touches a x) :
    (s.writeByte a v).readByte x = s.readByte x := by
  unfold State.touches at h
  rcases s.writeByte_cases a v with ⟨ht, hw⟩ | ⟨_, hw⟩ | ⟨b, hf, hlt, ht, hw⟩
  · rw [hw]
    simp only [ht] at h
    exact s.readByte_subPage v x (by omega)
  · rw [hw]
  · rw [hw, s.readByte_ramWrite _ _ _ _ hlt (offsetOf_lt a)]
    simp only [ht] at h
    rw [if_neg h]

/-- A write moves no table entry that a later write's reach depends on. -/
theorem State.touches_writeByte (s : State) (a : Word) (v : Byte) (c x : Word) :
    (s.writeByte a v).touches c x ↔ s.touches c x := by
  rcases s.writeByte_cases a v with ⟨_, hw⟩ | ⟨_, hw⟩ | ⟨_, _, _, _, hw⟩
  · rw [hw]
    have hwt : ({ s with subPage := v } : State).writeTable (entryOf c) = s.writeTable (entryOf c) := rfl
    have hs : ({ s with subPage := v } : State).slot = s.slot := rfl
    unfold State.touches
    rw [hwt, hs]
    cases e : s.writeTable (entryOf c) with
    | ram b h =>
      by_cases hx : entryOf x = 1
      · by_cases hr : s.romRam = true
        · have h1 : ∀ t : State, t.romRam = true → t.readTable 1 ≠ .ram b h := by
            intro t ht
            unfold State.readTable
            simp only [ht]
            by_cases hp : (t.pageExists && t.slotEnabled) = true <;> simp [hp]
          simp only [hx]
          constructor
          · intro ⟨e', _⟩
            exact absurd e' (h1 _ hr)
          · intro ⟨e', _⟩
            exact absurd e' (h1 _ hr)
        · have h1 : ({ s with subPage := v } : State).readTable (entryOf x) = s.readTable (entryOf x) := by
            have hr' : s.romRam = false := by simpa using hr
            have hr2 : ({ s with subPage := v } : State).romRam = false := hr'
            unfold State.readTable
            rw [hr', hr2]
            rfl
          rw [h1]
      · rw [s.readTable_subPage v _ (.inl hx)]
    | _ => rfl
  · rw [hw]
  · rw [hw]
    rfl

/-- Two writes: every address neither touches reads as before. -/
theorem State.readByte_writeTwo (s : State) (a : Word) (v : Byte) (b : Word) (w : Byte) (x : Word)
    (ha : ¬ s.touches a x) (hb : ¬ s.touches b x) : ((s.writeByte a v).writeByte b w).readByte x = s.readByte x := by
  rw [State.readByte_writeByte _ _ _ _ (mt (s.touches_writeByte a v b x).mp hb), s.readByte_writeByte a v x ha]

/-! ### The canonical form -/

theorem State.writeTarget_memoryWf (s : State) (t : Target) (o : Nat) (v : Byte) (h : s.memoryWf) :
    (s.writeTarget t o v).memoryWf := by
  obtain ⟨hr, hm, ho⟩ := h
  cases t with
  | mon => exact ⟨hr, Memory.write_wf _ _ _ hm, ho⟩
  | rom _ _ => exact ⟨hr, hm, Memory.write_wf _ _ _ ho⟩
  | ram _ _ => exact ⟨Memory.write_wf _ _ _ hr, hm, ho⟩
  | high => exact ⟨hr, hm, ho⟩
  | vapour => exact ⟨hr, hm, ho⟩
  | subpage => exact ⟨hr, hm, ho⟩

theorem State.writeByte_memoryWf (s : State) (a : Word) (v : Byte) (h : s.memoryWf) : (s.writeByte a v).memoryWf :=
  s.writeTarget_memoryWf _ _ v h

theorem State.writeWord_memoryWf (s : State) (a v : Word) (h : s.memoryWf) : (s.writeWord a v).memoryWf :=
  (s.writeByte a _).writeByte_memoryWf _ _ (s.writeByte_memoryWf _ _ h)

theorem State.internalWrite_memoryWf (s : State) (a : Word) (v : Byte) (h : s.memoryWf) :
    (s.internalWrite a v).memoryWf := s.writeTarget_memoryWf _ _ v h

theorem State.push16_memoryWf (s : State) (v : Word) (h : s.memoryWf) : (s.push16 v).memoryWf := by
  unfold State.push16
  exact State.writeByte_memoryWf _ _ _ (State.writeByte_memoryWf (s.setSp (s.cpu.sp - 1)) _ _ h)

theorem State.placeByte_memoryWf (s : State) (t : Target) (a : Word) (v : Byte) (h : s.memoryWf) :
    (s.writeTarget t (offsetOf a) v).memoryWf := s.writeTarget_memoryWf _ _ v h

theorem State.reset_memoryWf : State.reset.memoryWf := ⟨Memory.wf_nil, Memory.wf_nil, Memory.wf_nil⟩

/-! ### Every byte has its place -/

/-- What a table of `ramMap` names is a block the machine has (R94). -/
theorem Config.ramEntry_lt (c : Config) (hv : c.valid = true) (romRam : Bool) (nibble w b : Nat)
    (h : c.ramEntry romRam nibble w = some b) : b < c.ramBlockCount := by
  have hr : c.ramRangeOk = true := by
    unfold Config.valid at hv
    simp only [Bool.and_eq_true] at hv
    exact hv.1.1.1.1.1.2
  unfold Config.ramEntry at h
  rw [List.getD_eq_getElem?_getD] at h
  cases hg : c.ramTable[ramTableIndex romRam nibble w]? with
  | none => simp [hg] at h
  | some e =>
    simp only [hg, Option.getD_some] at h
    subst h
    simpa using List.all_eq_true.mp hr _ (List.mem_of_getElem? hg)

/-- A target whose bytes the machine has: where a write can go. -/
def State.targetInside (s : State) (t : Target) : Prop :=
  match t with
  | .rom slot page => slot < 8 ∧ page < s.cfg.nSub.getD slot 0
  | .ram b h => b < s.cfg.ramBlockCount ∧ h < 2
  | _ => True

theorem State.ramTarget_inside (s : State) (hv : s.cfg.valid = true) (u : Target) (hu : s.targetInside u) (k : Nat) :
    s.targetInside (s.ramTarget u k) := by
  unfold State.ramTarget
  cases h : s.ramMap (k / 2) with
  | none => exact hu
  | some b => exact ⟨Config.ramEntry_lt _ hv _ _ _ _ h, Nat.mod_lt _ (by decide)⟩

theorem State.writeTable_inside (s : State) (hv : s.cfg.valid = true) (k : Nat) : s.targetInside (s.writeTable k) := by
  unfold State.writeTable
  split
  · trivial
  · split
    · trivial
    · exact s.ramTarget_inside hv .vapour trivial k

theorem State.updateTable_inside (s : State) (hv : s.cfg.valid = true) (k : Nat) : s.targetInside (s.updateTable k) := by
  unfold State.updateTable
  split
  · trivial
  · split
    · split
      · next h => exact ⟨Nat.mod_lt _ (by decide), by simpa [State.pageExists] using h⟩
      · trivial
    · exact s.ramTarget_inside hv .vapour trivial k

theorem State.writeTarget_inside (s : State) (t : Target) (o : Nat) (v : Byte) (ht : s.targetInside t) (ho : o < 0x2000)
    (h : s.memoryInside) : (s.writeTarget t o v).memoryInside := by
  obtain ⟨hm, hs, hr⟩ := h
  cases t with
  | mon => exact ⟨fun b hb => (Memory.mem_write _ _ _ b hb).elim (fun e => e ▸ ho) (hm b), hs, hr⟩
  | rom slot page =>
    refine ⟨hm, fun b hb => (Memory.mem_write _ _ _ b hb).elim (fun e => ?_) (hs b), hr⟩
    exact ⟨slot, page, o, ht.1, ht.2, ho, e⟩
  | ram b h =>
    refine ⟨hm, hs, fun c hc => (Memory.mem_write _ _ _ c hc).elim (fun e => ?_) (hr c)⟩
    obtain ⟨h1, h2⟩ := ht
    show c.1 < s.cfg.ramBlockCount * 0x4000
    rw [e]
    unfold ramIndex
    omega
  | high => exact ⟨hm, hs, hr⟩
  | vapour => exact ⟨hm, hs, hr⟩
  | subpage => exact ⟨hm, hs, hr⟩

theorem State.writeByte_inside (s : State) (a : Word) (v : Byte) (hv : s.cfg.valid = true) (h : s.memoryInside) :
    (s.writeByte a v).memoryInside :=
  s.writeTarget_inside _ _ v (s.writeTable_inside hv _) (offsetOf_lt a) h

theorem State.internalWrite_inside (s : State) (a : Word) (v : Byte) (hv : s.cfg.valid = true) (h : s.memoryInside) :
    (s.internalWrite a v).memoryInside :=
  s.writeTarget_inside _ _ v (s.updateTable_inside hv _) (offsetOf_lt a) h

theorem State.reset_memoryInside : State.reset.memoryInside := ⟨nofun, nofun, nofun⟩

/-- The check of `configure` is `MemoryInside`, for the sub-page counts of a valid configuration (R53, R101). -/
theorem imagesFit_iff (c : Config) (hv : c.valid = true) (monitor slots ram : Memory) :
    imagesFit c monitor slots ram = true ↔ MemoryInside c monitor slots ram := by
  have hp : ∀ slot, c.nSub.getD slot 0 ≤ 256 := by
    unfold Config.valid Config.slotsOk at hv
    simp only [Bool.and_eq_true, List.all_eq_true, decide_eq_true_eq] at hv
    intro slot
    rw [List.getD_eq_getElem?_getD]
    cases hg : c.nSub[slot]? with
    | none => simp
    | some n => simpa using hv.1.1.1.1.1.1.2.2 n (List.mem_of_getElem? hg)
  have hc : ∀ k, romCellOk c k = true ↔
      ∃ slot page o, slot < 8 ∧ page < c.nSub.getD slot 0 ∧ o < 0x2000 ∧ k = romIndex slot page o := by
    intro k
    unfold romCellOk
    rw [Bool.and_eq_true, decide_eq_true_eq, decide_eq_true_eq]
    constructor
    · rintro ⟨h1, h2⟩
      exact ⟨k / 0x200000, k / 0x2000 % 256, k % 0x2000, h1, h2, by omega, by unfold romIndex; omega⟩
    · rintro ⟨slot, page, o, h1, h2, h3, rfl⟩
      have hs := hp slot
      have e1 : romIndex slot page o / 0x200000 = slot := by unfold romIndex; omega
      have e2 : romIndex slot page o / 0x2000 % 256 = page := by unfold romIndex; omega
      rw [e1, e2]
      exact ⟨h1, h2⟩
  unfold imagesFit MemoryInside
  simp only [Bool.and_eq_true, List.all_eq_true, decide_eq_true_eq, hc, and_assoc]

/-! ### A push, as two writes of the state before it -/

/-- Writes depend on the memory and its map alone. -/
theorem State.writeByte_setSp (s : State) (p a : Word) (v : Byte) :
    (s.setSp p).writeByte a v = (s.writeByte a v).setSp p := by
  rcases s.writeByte_cases a v with ⟨ht, hw⟩ | ⟨ht, hw⟩ | ⟨_, _, _, ht, hw⟩ <;> rw [hw] <;>
    have ht' : (s.setSp p).writeTable (entryOf a) = _ := ht <;> simp only [State.writeByte, ht'] <;> rfl

theorem State.push16_eq (s : State) (v : Word) :
    s.push16 v =
      ((s.writeByte (s.cpu.sp - 1) (highByte v)).writeByte (s.cpu.sp - 2) (lowByte v)).setSp (s.cpu.sp - 2) := by
  unfold State.push16
  simp only [State.writeByte_setSp]
  rfl

end Sys2Proof.Machine
end

