-- ==== Sys2Proof/Laws/Ops.lean ====
section
/-! SUPPORT. The shared operations of Machine/Ops.lean: writes and pushes as seen from the state before the instruction, and the
inversions of a port access. -/

namespace Sys2Proof.Machine

/-! ### Frames of the pieces of a meaning -/

/-- A state that has the memory, the map and the configuration of `s` reads as `s` does. -/
theorem State.storesNothing_of (s t : State) (h : t.sameMemory s) : s.storesNothing t := by
  obtain ⟨hr, hm, ho, hi, hs, he, hc⟩ := h
  exact ⟨⟨hr, hm, ho, hi, hs, he, hc⟩, State.readByte_congr s t hr hm ho hi hs he hc⟩

theorem State.sameMemory_readByte (t u : State) (h : t.sameMemory u) (x : Word) : t.readByte x = u.readByte x := by
  obtain ⟨hr, hm, ho, hi, hs, he, hc⟩ := h
  exact State.readByte_congr u t hr hm ho hi hs he hc x

/-- A CPU write depends on the memory, the map and the configuration alone: it gives the same memory from states that agree on
them. -/
theorem State.writeByte_sameMemory (t u : State) (h : t.sameMemory u) (a : Word) (v : Byte) :
    (t.writeByte a v).sameMemory (u.writeByte a v) := by
  obtain ⟨hr, hm, ho, hi, hs, he, hc⟩ := h
  have hw : t.writeTable (entryOf a) = u.writeTable (entryOf a) := by
    unfold State.writeTable State.ramTarget State.ramMap State.romRam
    rw [hi, hc]
  rcases u.writeByte_cases a v with ⟨ht, e⟩ | ⟨ht, e⟩ | ⟨b, k, _, ht, e⟩
  · have e' : t.writeByte a v = { t with subPage := v } := by
      unfold State.writeByte
      rw [hw, ht]
      rfl
    rw [e, e']
    exact ⟨hr, hm, ho, hi, rfl, he, hc⟩
  · have e' : t.writeByte a v = t := by
      unfold State.writeByte
      rw [hw, ht]
      rfl
    rw [e, e']
    exact ⟨hr, hm, ho, hi, hs, he, hc⟩
  · have e' : t.writeByte a v = { t with ram := t.ram.write (ramIndex b k (offsetOf a)) v } := by
      unfold State.writeByte
      rw [hw, ht]
      rfl
    rw [e, e']
    exact ⟨by simp only [hr], hm, ho, hi, hs, he, hc⟩

theorem State.storesByte_of (s t : State) (a : Word) (v : Byte) (h : t.sameMemory (s.writeByte a v)) :
    s.storesByte t a v :=
  ⟨h, fun x hx => (State.sameMemory_readByte _ _ h x).trans (s.readByte_writeByte a v x hx)⟩

theorem State.storesTwo_of (s t : State) (a : Word) (v : Byte) (b : Word) (w : Byte)
    (h : t.sameMemory ((s.writeByte a v).writeByte b w)) : s.storesTwo t a v b w :=
  ⟨h, fun x ha hb => (State.sameMemory_readByte _ _ h x).trans (s.readByte_writeTwo a v b w x ha hb)⟩

/-- The memory after a push, from any state with the memory and the stack pointer of `s`. -/
theorem State.push16_sameMemory (s t : State) (v : Word) (h : t.sameMemory s) (hp : t.cpu.sp = s.cpu.sp) :
    (t.push16 v).sameMemory
      ((s.writeByte (s.cpu.sp - 1) (highByte v)).writeByte (s.cpu.sp - 2) (lowByte v)) := by
  rw [t.push16_eq, hp]
  exact State.writeByte_sameMemory _ _ (State.writeByte_sameMemory _ _ h _ _) _ _

theorem State.pushed_of (s t u : State) (v : Word) (h : u.sameMemory s) (hp : u.cpu.sp = s.cpu.sp)
    (e : t.sameMemory (u.push16 v)) : s.pushed t v := by
  apply State.storesTwo_of
  obtain ⟨h1, h2, h3, h4, h5, h6, h7⟩ := s.push16_sameMemory u v h hp
  obtain ⟨e1, e2, e3, e4, e5, e6, e7⟩ := e
  exact ⟨e1.trans h1, e2.trans h2, e3.trans h3, e4.trans h4, e5.trans h5, e6.trans h6, e7.trans h7⟩

/-- A register after an instruction that wrote `v` to `r`. -/
theorem State.onlyReg_of (s t : State) (r : Reg8) (v : Byte) (h : t.cpu.main = (s.setReg8 r v).cpu.main) :
    s.onlyReg t r v := by
  constructor
  · have e : t.reg8 r = (s.setReg8 r v).reg8 r := by cases r <;> simp [State.reg8, h]
    rw [e, State.setReg8_same]
  · intro q hq
    have e : t.reg8 q = (s.setReg8 r v).reg8 q := by cases q <;> simp [State.reg8, h]
    rw [e, State.setReg8_other _ _ _ _ hq]

/-- The main bank as it was: A, F, B to L are unchanged. -/
theorem State.sameRegs_of_main (s t : State) (h : t.cpu.main = s.cpu.main) : s.sameRegs t ∧ s.sameFlags t :=
  ⟨fun q => by cases q <;> simp [State.reg8, h], congrArg Bank.f h⟩

/-- The same where the flags were written too. -/
theorem State.onlyReg_of_flags (s t : State) (r : Reg8) (v : Byte) (f : Flags)
    (h : t.cpu.main = { (s.setReg8 r v).cpu.main with f := f }) : s.onlyReg t r v := by
  constructor
  · have e : t.reg8 r = (s.setReg8 r v).reg8 r := by cases r <;> simp [State.reg8, h]
    rw [e, State.setReg8_same]
  · intro q hq
    have e : t.reg8 q = (s.setReg8 r v).reg8 q := by cases q <;> simp [State.reg8, h]
    rw [e, State.setReg8_other _ _ _ _ hq]

theorem State.sameRegs_of (s t : State) (f : Flags) (h : t.cpu.main = { s.cpu.main with f := f }) : s.sameRegs t := by
  intro q
  cases q <;> simp [State.reg8, h]

/-! ### Ports -/

/-- Every outcome of a port read (R110, R114). -/
theorem State.ioRead_cases (s before : State) (port : Word) (k : Byte → State → Outcome) :
    (lowByte port ∈ s.cfg.portMapIn ∧
      s.ioRead before port k = k (s.hostReply (.hostIn port s.cpu)).value (s.afterCall (.hostIn port s.cpu))) ∨
    (lowByte port ∉ s.cfg.portMapIn ∧ s.cfg.portPolicy = .permissive ∧
      s.ioRead before port k = k s.cfg.dummyInValue (s.emit (.badPort .input port none))) ∨
    (lowByte port ∉ s.cfg.portMapIn ∧ s.cfg.portPolicy = .strict ∧
      s.ioRead before port k = .fault (.badPort before.cpu.pc .input port none before)) := by
  unfold State.ioRead portLow
  by_cases h : lowByte port ∈ s.cfg.portMapIn
  · exact .inl ⟨h, by simp [h]⟩
  · cases hp : s.cfg.portPolicy
    · exact .inr (.inr ⟨h, rfl, by simp [h]⟩)
    · exact .inr (.inl ⟨h, rfl, by simp [h]⟩)

/-- Every outcome of a port write (R111, R114). -/
theorem State.ioWrite_cases (s before : State) (port : Word) (v : Byte) (k : State → Outcome) :
    (lowByte port = s.cfg.ioBytePort ∧ s.ioWrite before port v k = k (s.setIoByte v)) ∨
    (lowByte port ≠ s.cfg.ioBytePort ∧ lowByte port ∈ s.cfg.portMapOut ∧
      s.ioWrite before port v k = k (s.afterCall (.hostOut port v s.cpu))) ∨
    (lowByte port ≠ s.cfg.ioBytePort ∧ lowByte port ∉ s.cfg.portMapOut ∧ s.cfg.portPolicy = .permissive ∧
      s.ioWrite before port v k = k (s.emit (.badPort .output port (some v)))) ∨
    (lowByte port ≠ s.cfg.ioBytePort ∧ lowByte port ∉ s.cfg.portMapOut ∧ s.cfg.portPolicy = .strict ∧
      s.ioWrite before port v k = .fault (.badPort before.cpu.pc .output port (some v) before)) := by
  unfold State.ioWrite portLow
  by_cases h0 : lowByte port = s.cfg.ioBytePort
  · exact .inl ⟨h0, by simp [h0]⟩
  · by_cases h : lowByte port ∈ s.cfg.portMapOut
    · exact .inr (.inl ⟨h0, h, by simp [h0, h]⟩)
    · cases hp : s.cfg.portPolicy
      · exact .inr (.inr (.inr ⟨h0, h, rfl, by simp [h0, h]⟩))
      · exact .inr (.inr (.inl ⟨h0, h, rfl, by simp [h0, h]⟩))

/-! ### The end of a step -/

theorem State.finish_eq (s : State) (cost : Nat) : s.finish cost = .next (s.endStep cost) := rfl

/-- The two ends of an iteration (R274). -/
theorem State.iterate_eq (s : State) (again : Bool) :
    s.iterate again = .next (if again then (s.setPc (s.cpu.pc - 2)).endStep 21 else s.endStep 16) := by
  cases again <;> rfl

end Sys2Proof.Machine
end

