-- ==== Sys2Proof/Laws/Alu.lean ====
section
/-! SUPPORT. The flag computations against the rules' formulas, and what each shared operation of the arithmetic does, once. -/

namespace Sys2Proof.Machine

theorem msb8 (v : Byte) : v.msb = v.getLsbD 7 := BitVec.msb_eq_getLsbD_last v

theorem msb16 (v : Word) : v.msb = v.getLsbD 15 := BitVec.msb_eq_getLsbD_last v

/-- `parity` is R12's: an even number of one bits. -/
theorem parity_isParity (v : Byte) : IsParity (parity v) v := by
  revert v
  decide

theorem add8Flags_isAdd8 (d : Flags) (a b : Byte) (c : Bool) : IsAdd8 (add8Flags d a b c) (add8 a b c) a b c := by
  refine ⟨rfl, msb8 _, rfl, rfl, ?_, rfl, rfl⟩
  simp only [add8Flags, msb8]
  cases a.getLsbD 7 <;> cases b.getLsbD 7 <;> cases (add8 a b c).getLsbD 7 <;> rfl

theorem sub8_eq (a b : Byte) (c : Bool) : sub8 a b c = BitVec.ofInt 8 ((a.toNat : Int) - b.toNat - c.toNat) := by
  have ha := a.isLt
  have hb := b.isLt
  apply BitVec.eq_of_toNat_eq
  rw [BitVec.toNat_ofInt]
  unfold sub8
  cases c <;> simp [BitVec.toNat_sub] <;> omega

theorem sub8Flags_isSub8 (d : Flags) (a b : Byte) (c : Bool) : IsSub8 (sub8Flags d a b c) (sub8 a b c) a b c := by
  refine ⟨sub8_eq a b c, msb8 _, rfl, rfl, ?_, rfl, rfl⟩
  simp only [sub8Flags, msb8]
  cases a.getLsbD 7 <;> cases b.getLsbD 7 <;> cases (sub8 a b c).getLsbD 7 <;> rfl

theorem sub16_eq (a b : Word) (c : Bool) : sub16 a b c = BitVec.ofInt 16 ((a.toNat : Int) - b.toNat - c.toNat) := by
  have ha := a.isLt
  have hb := b.isLt
  apply BitVec.eq_of_toNat_eq
  rw [BitVec.toNat_ofInt]
  unfold sub16
  cases c <;> simp [BitVec.toNat_sub] <;> omega

theorem add16_false (a b : Word) : add16 a b false = a + b := by
  apply BitVec.eq_of_toNat_eq
  simp [add16]

/-- A write of the flags with one of A to L: what every flag-writing register operation leaves. -/
theorem flagged_spec (s : State) (r : Reg8) (v : Byte) (f : Flags → Flags) (len cost : Nat) :
    ∃ t, (((s.advance len).setReg8 r v).writeFlags f).finish cost = .next t ∧ s.onlyMain t len ∧ s.onlyReg t r v ∧
      t.cpu.main.f = f s.drawnFlags ∧ s.storesNothing t ∧ s.charged t cost ∧ s.quiet t := by
  refine ⟨_, rfl, ?_, State.onlyReg_of_flags _ _ _ _ (f s.drawnFlags) ?_, ?_, State.storesNothing_of _ _ ?_, ?_, ?_⟩
  · cases r <;> rfl
  · cases r <;> rfl
  · cases r <;> rfl
  · exact ⟨rfl, rfl, rfl, rfl, rfl, rfl, rfl⟩
  · exact ⟨rfl, rfl, rfl, rfl⟩
  · exact ⟨rfl, rfl, rfl, rfl⟩

/-- A write of the flags alone. -/
theorem flagsOnly_spec (s : State) (f : Flags → Flags) (len cost : Nat) :
    ∃ t, ((s.advance len).writeFlags f).finish cost = .next t ∧ s.onlyMain t len ∧ s.sameRegs t ∧
      t.cpu.main.f = f s.drawnFlags ∧ s.storesNothing t ∧ s.charged t cost ∧ s.quiet t := by
  refine ⟨_, rfl, rfl, State.sameRegs_of _ _ (f s.drawnFlags) rfl, rfl, State.storesNothing_of _ _ ?_, ?_, ?_⟩
  · exact ⟨rfl, rfl, rfl, rfl, rfl, rfl, rfl⟩
  · exact ⟨rfl, rfl, rfl, rfl⟩
  · exact ⟨rfl, rfl, rfl, rfl⟩

/-- A write of the flags with a byte stored: what every flag-writing memory operation leaves. -/
theorem flaggedStore_spec (s : State) (a : Word) (v : Byte) (f : Flags → Flags) (len cost : Nat) :
    ∃ t, (((s.advance len).writeByte a v).writeFlags f).finish cost = .next t ∧ s.onlyMain t len ∧ s.sameRegs t ∧
      t.cpu.main.f = f s.drawnFlags ∧ s.storesByte t a v ∧ s.charged t cost ∧ s.quiet t := by
  have hd : ((s.advance len).writeByte a v).drawnFlags = s.drawnFlags := by simp [State.drawnFlags]
  refine ⟨_, rfl, by simp [State.onlyMain], State.sameRegs_of _ _ (f s.drawnFlags) ?_, ?_, State.storesByte_of _ _ _ _ ?_, ?_, ?_⟩
  · simp [hd]
  · simp [hd]
  · exact State.writeByte_sameMemory (s.advance len) s ⟨rfl, rfl, rfl, rfl, rfl, rfl, rfl⟩ a v
  · exact ⟨by simp, by simp, by simp, by simp⟩
  · exact ⟨by simp, by simp, by simp, by simp⟩

theorem aluA_spec (s : State) (op : AluOp) (v : Byte) (len cost : Nat) :
    ∃ t, aluA s op v len cost = .next t ∧ s.onlyMain t len ∧ s.onlyReg t .a (aluResult op s.cpu.main.a v s.carry) ∧
      t.cpu.main.f = aluFlags op s.drawnFlags s.cpu.main.a v s.carry ∧ s.storesNothing t ∧ s.charged t cost ∧
      s.quiet t := flagged_spec s .a _ _ len cost

theorem incRegister_spec (s : State) (r : Reg8) (len cost : Nat) :
    ∃ t, incRegister s r len cost = .next t ∧ s.onlyMain t len ∧ s.onlyReg t r (s.reg8 r + 1) ∧
      t.cpu.main.f = inc8Flags s.drawnFlags s.flags (s.reg8 r) ∧ s.storesNothing t ∧ s.charged t cost ∧ s.quiet t :=
  flagged_spec s r _ _ len cost

theorem decRegister_spec (s : State) (r : Reg8) (len cost : Nat) :
    ∃ t, decRegister s r len cost = .next t ∧ s.onlyMain t len ∧ s.onlyReg t r (s.reg8 r - 1) ∧
      t.cpu.main.f = dec8Flags s.drawnFlags s.flags (s.reg8 r) ∧ s.storesNothing t ∧ s.charged t cost ∧ s.quiet t :=
  flagged_spec s r _ _ len cost

theorem incMemory_spec (s : State) (a : Word) (len cost : Nat) :
    ∃ t, incMemory s a len cost = .next t ∧ s.onlyMain t len ∧ s.sameRegs t ∧
      t.cpu.main.f = inc8Flags s.drawnFlags s.flags (s.readByte a) ∧ s.storesByte t a (s.readByte a + 1) ∧
      s.charged t cost ∧ s.quiet t := flaggedStore_spec s a _ _ len cost

theorem decMemory_spec (s : State) (a : Word) (len cost : Nat) :
    ∃ t, decMemory s a len cost = .next t ∧ s.onlyMain t len ∧ s.sameRegs t ∧
      t.cpu.main.f = dec8Flags s.drawnFlags s.flags (s.readByte a) ∧ s.storesByte t a (s.readByte a - 1) ∧
      s.charged t cost ∧ s.quiet t := flaggedStore_spec s a _ _ len cost

/-- What every 16-bit operation on HL leaves: the new HL and the new flags. -/
theorem flaggedHl_spec (s : State) (v : Word) (f : Flags → Flags) (len cost : Nat) :
    ∃ t, (((s.advance len).setHl v).writeFlags f).finish cost = .next t ∧ s.onlyMain t len ∧ t.hl = v ∧ t.bc = s.bc ∧
      t.de = s.de ∧ t.cpu.main.a = s.cpu.main.a ∧ t.cpu.main.f = f s.drawnFlags ∧ s.storesNothing t ∧
      s.charged t cost ∧ s.quiet t := by
  refine ⟨_, rfl, rfl, joinBytes_halves v, rfl, rfl, rfl, rfl, State.storesNothing_of _ _ ?_, ?_, ?_⟩
  · exact ⟨rfl, rfl, rfl, rfl, rfl, rfl, rfl⟩
  · exact ⟨rfl, rfl, rfl, rfl⟩
  · exact ⟨rfl, rfl, rfl, rfl⟩

theorem addIndex_spec (s : State) (x : IndexReg) (b : Word) (len cost : Nat) :
    ∃ t, addIndex s x b len cost = .next t ∧
      t.cpu = { (s.setIndex x (s.index x + b)).cpu.past len with main := { s.cpu.main with f := t.cpu.main.f } } ∧
      t.cpu.main.f = add16Flags s.drawnFlags s.flags (s.index x) b ∧ s.storesNothing t ∧
      s.charged t cost ∧ s.quiet t := by
  refine ⟨_, rfl, ?_, ?_, State.storesNothing_of _ _ ?_, ?_, ?_⟩
  · rw [add16_false]
    cases x <;> rfl
  · cases x <;> rfl
  · cases x <;> exact ⟨rfl, rfl, rfl, rfl, rfl, rfl, rfl⟩
  · cases x <;> exact ⟨rfl, rfl, rfl, rfl⟩
  · cases x <;> exact ⟨rfl, rfl, rfl, rfl⟩

theorem countPair_spec (s : State) (p : Pair) (v : Word) (len cost : Nat) :
    ∃ t, countPair s p v len cost = .next t ∧ t.cpu = (s.setPair p v).cpu.past len ∧ t.pair p = v ∧
      (∀ q, q ≠ p → t.pair q = s.pair q) ∧ s.sameFlags t ∧ s.storesNothing t ∧ s.charged t cost ∧ s.quiet t := by
  have e : ∀ q, ((((s.advance len).setPair p v).endStep cost)).pair q = (s.setPair p v).pair q := by
    intro q
    cases p <;> cases q <;> rfl
  refine ⟨_, rfl, ?_, ?_, ?_, ?_, State.storesNothing_of _ _ ?_, ?_, ?_⟩
  · cases p <;> rfl
  · rw [e, State.setPair_same]
  · intro q hq
    rw [e, State.setPair_other _ _ _ _ hq]
  · cases p <;> rfl
  · cases p <;> exact ⟨rfl, rfl, rfl, rfl, rfl, rfl, rfl⟩
  · cases p <;> exact ⟨rfl, rfl, rfl, rfl⟩
  · cases p <;> exact ⟨rfl, rfl, rfl, rfl⟩

theorem countIndex_spec (s : State) (x : IndexReg) (v : Word) (len cost : Nat) :
    ∃ t, countIndex s x v len cost = .next t ∧ t.cpu = (s.setIndex x v).cpu.past len ∧ t.index x = v ∧
      (∀ y, y ≠ x → t.index y = s.index y) ∧ s.storesNothing t ∧ s.charged t cost ∧ s.quiet t := by
  have e : ∀ y, (((s.advance len).setIndex x v).endStep cost).index y = (s.setIndex x v).index y := by
    intro y
    cases x <;> cases y <;> rfl
  refine ⟨_, rfl, ?_, ?_, ?_, State.storesNothing_of _ _ ?_, ?_, ?_⟩
  · cases x <;> rfl
  · rw [e, State.setIndex_same]
  · intro y hy
    rw [e, State.setIndex_other _ _ _ _ hy]
  · cases x <;> exact ⟨rfl, rfl, rfl, rfl, rfl, rfl, rfl⟩
  · cases x <;> exact ⟨rfl, rfl, rfl, rfl⟩
  · cases x <;> exact ⟨rfl, rfl, rfl, rfl⟩

/-- A control instruction: what it writes of the CPU's own state, and nothing else. -/
theorem control_spec (s t : State) (cost : Nat) (h : t = ({ s with cpu := t.cpu } : State)) :
    ∃ u, t.finish cost = .next u ∧ u.cpu = { t.cpu with eiDelay := false } ∧ s.storesNothing u ∧ s.charged u cost ∧
      s.quiet u := by
  rw [h]
  refine ⟨_, rfl, rfl, State.storesNothing_of _ _ ?_, ?_, ?_⟩
  · exact ⟨rfl, rfl, rfl, rfl, rfl, rfl, rfl⟩
  · exact ⟨rfl, rfl, rfl, rfl⟩
  · exact ⟨rfl, rfl, rfl, rfl⟩

end Sys2Proof.Machine
end

