-- ==== Sys2Proof/Laws/Decode.lean ====
section
/-! SUPPORT. What the endings of the decoder answer, and the opcode byte of three fields. -/

namespace Sys2Proof

theorem plain_ok (i j : Instr) (t r : List Byte) : plain i t = .ok (j, r) ↔ j = i ∧ r = t := by
  unfold plain
  constructor
  · intro h
    injection h with h
    injection h with h1 h2
    exact ⟨h1.symm, h2.symm⟩
  · rintro ⟨rfl, rfl⟩
    rfl

theorem withByte_ok (f : Byte → Instr) (j : Instr) (t r : List Byte) :
    withByte f t = .ok (j, r) ↔ ∃ n, t = n :: r ∧ j = f n := by
  cases t with
  | nil => exact ⟨fun h => (nomatch h), fun ⟨_, h, _⟩ => (nomatch h)⟩
  | cons n t =>
    constructor
    · intro h
      injection h with h
      injection h with h1 h2
      exact ⟨n, by rw [h2], h1.symm⟩
    · rintro ⟨m, h, rfl⟩
      cases h
      rfl

theorem withWord_ok (f : Word → Instr) (j : Instr) (t r : List Byte) :
    withWord f t = .ok (j, r) ↔ ∃ v, t = lowByte v :: highByte v :: r ∧ j = f v := by
  match t with
  | [] => exact ⟨fun h => (nomatch h), fun ⟨_, h, _⟩ => (nomatch h)⟩
  | [_] => exact ⟨fun h => (nomatch h), fun ⟨_, h, _⟩ => (nomatch h)⟩
  | lo :: hi :: t =>
    constructor
    · intro h
      injection h with h
      injection h with h1 h2
      exact ⟨joinBytes hi lo, by rw [h2, Machine.lowByte_joinBytes, Machine.highByte_joinBytes], h1.symm⟩
    · rintro ⟨v, h, rfl⟩
      cases h
      simp only [withWord, Machine.joinBytes_halves]

theorem withTwo_ok (f : Byte → Byte → Instr) (j : Instr) (t r : List Byte) :
    withTwo f t = .ok (j, r) ↔ ∃ m n, t = m :: n :: r ∧ j = f m n := by
  match t with
  | [] => exact ⟨fun h => (nomatch h), fun ⟨_, _, h, _⟩ => (nomatch h)⟩
  | [_] => exact ⟨fun h => (nomatch h), fun ⟨_, _, h, _⟩ => (nomatch h)⟩
  | m :: n :: t =>
    constructor
    · intro h
      injection h with h
      injection h with h1 h2
      exact ⟨m, n, by rw [h2], h1.symm⟩
    · rintro ⟨m', n', h, rfl⟩
      cases h
      rfl

/-- A byte is its three fields (R152). -/
theorem byte_fields (op : Byte) : op = BitVec.ofNat 8 (64 * fieldX op + 8 * fieldY op + fieldZ op) := by
  have h := op.isLt
  apply BitVec.eq_of_toNat_eq
  rw [BitVec.toNat_ofNat]
  unfold fieldX fieldY fieldZ
  omega

end Sys2Proof
end

