-- ==== Sys2Proof/Laws/Flow.lean ====
section
/-! SUPPORT. What each shared operation of the exchanges, the block instructions, the rotates, the bits and the jumps
does, once. -/

namespace Sys2Proof.Machine

/-! ### Exchanges and blocks -/

theorem exchangeStack_sameMemory (s t : State) (v : Word) (h : t.sameMemory s) (hp : t.cpu.sp = s.cpu.sp) :
    (exchangeStack t v).sameMemory ((s.writeByte (s.cpu.sp + 1) (highByte v)).writeByte s.cpu.sp (lowByte v)) := by
  unfold exchangeStack
  rw [hp]
  exact State.writeByte_sameMemory _ _ (State.writeByte_sameMemory _ _ h _ _) _ _

/-- One iteration of a block transfer (R266 to R269, R274). -/
theorem blockMove_spec (s : State) (move : Word) (repeats : Bool) :
    ∃ t, blockMove s move repeats = .next t ∧
      t.bc = s.bc - 1 ∧ t.de = s.de + move ∧ t.hl = s.hl + move ∧ t.cpu.main.a = s.cpu.main.a ∧
      t.cpu.main.f = blockMoveFlags s.drawnFlags s.flags (s.bc - 1) ∧
      s.storesByte t s.de (s.readByte s.hl) ∧ s.quiet t ∧
      (repeats = true ∧ s.bc - 1 ≠ 0 → s.onlyMain t 0 ∧ s.charged t 21) ∧
      (repeats = false ∨ s.bc - 1 = 0 → s.onlyMain t 2 ∧ s.charged t 16) := by
  unfold blockMove
  simp only [State.iterate_eq]
  have hm := State.writeByte_sameMemory (s.advance 2) s ⟨rfl, rfl, rfl, rfl, rfl, rfl, rfl⟩ s.de (s.readByte s.hl)
  refine ⟨_, rfl, ?_⟩
  by_cases hr : (repeats && s.bc - 1 != 0) = true
  · simp only [hr, if_true]
    simp only [Bool.and_eq_true, bne_iff_ne, ne_eq] at hr
    refine ⟨?_, ?_, ?_, by simp, ?_, State.storesByte_of _ _ _ _ ?_, ?_, fun _ => ⟨?_, ?_⟩, fun h => ?_⟩
    · simp [State.bc, joinBytes_halves]
    · simp [State.de, joinBytes_halves]
    · simp [State.hl, joinBytes_halves]
    · simp [State.drawnFlags]
    · obtain ⟨h1, h2, h3, h4, h5, h6, h7⟩ := hm
      exact ⟨by simpa using h1, by simp, by simp, by simp, by simpa using h5, by simp, by simp⟩
    · exact ⟨by simp, by simp, by simp, by simp⟩
    · simp [State.onlyMain]
    · exact ⟨by simp, by simp, by simp, by simp⟩
    · rcases h with h | h
      · simp [h] at hr
      · exact absurd h hr.2
  · simp only [hr]
    refine ⟨?_, ?_, ?_, by simp, ?_, State.storesByte_of _ _ _ _ ?_, ?_, fun h => ?_, fun _ => ⟨?_, ?_⟩⟩
    · simp [State.bc, joinBytes_halves]
    · simp [State.de, joinBytes_halves]
    · simp [State.hl, joinBytes_halves]
    · simp [State.drawnFlags]
    · obtain ⟨h1, h2, h3, h4, h5, h6, h7⟩ := hm
      exact ⟨by simpa using h1, by simp, by simp, by simp, by simpa using h5, by simp, by simp⟩
    · exact ⟨by simp, by simp, by simp, by simp⟩
    · exfalso
      apply hr
      simpa using h
    · simp [State.onlyMain]
    · exact ⟨by simp, by simp, by simp, by simp⟩

/-- One iteration of a block search (R270 to R274). -/
theorem blockSearch_spec (s : State) (move : Word) (repeats : Bool) :
    ∃ t, blockSearch s move repeats = .next t ∧
      t.bc = s.bc - 1 ∧ t.de = s.de ∧ t.hl = s.hl + move ∧ t.cpu.main.a = s.cpu.main.a ∧
      t.cpu.main.f = blockCompareFlags s.drawnFlags s.flags s.cpu.main.a (s.readByte s.hl) (s.bc - 1) ∧
      s.storesNothing t ∧ s.quiet t ∧
      (repeats = true ∧ s.bc - 1 ≠ 0 ∧ s.cpu.main.a ≠ s.readByte s.hl → s.onlyMain t 0 ∧ s.charged t 21) ∧
      (repeats = false ∨ s.bc - 1 = 0 ∨ s.cpu.main.a = s.readByte s.hl → s.onlyMain t 2 ∧ s.charged t 16) := by
  unfold blockSearch
  simp only [State.iterate_eq]
  refine ⟨_, rfl, ?_⟩
  have hsub : ∀ a b : Byte, a - b = 0 ↔ a = b := by
    intro a b
    bv_omega
  by_cases hr : (repeats && s.bc - 1 != 0 && s.cpu.main.a - s.readByte s.hl != 0) = true
  · simp only [hr, if_true]
    simp only [Bool.and_eq_true, bne_iff_ne, ne_eq, hsub] at hr
    refine ⟨?_, ?_, ?_, by simp, ?_, State.storesNothing_of _ _ ?_, ?_, fun _ => ⟨?_, ?_⟩, fun h => ?_⟩
    · simp [State.bc, joinBytes_halves]
    · simp [State.de]
    · simp [State.hl, joinBytes_halves]
    · simp [State.drawnFlags]
    · exact ⟨by simp, by simp, by simp, by simp, by simp, by simp, by simp⟩
    · exact ⟨by simp, by simp, by simp, by simp⟩
    · simp [State.onlyMain]
    · exact ⟨by simp, by simp, by simp, by simp⟩
    · rcases h with h | h | h
      · simp [h] at hr
      · exact absurd h hr.1.2
      · exact absurd h hr.2
  · simp only [hr]
    refine ⟨?_, ?_, ?_, by simp, ?_, State.storesNothing_of _ _ ?_, ?_, fun h => ?_, fun _ => ⟨?_, ?_⟩⟩
    · simp [State.bc, joinBytes_halves]
    · simp [State.de]
    · simp [State.hl, joinBytes_halves]
    · simp [State.drawnFlags]
    · exact ⟨by simp, by simp, by simp, by simp, by simp, by simp, by simp⟩
    · exact ⟨by simp, by simp, by simp, by simp⟩
    · exfalso
      apply hr
      simp only [Bool.and_eq_true, bne_iff_ne, ne_eq, hsub]
      exact ⟨⟨h.1, h.2.1⟩, h.2.2⟩
    · simp [State.onlyMain]
    · exact ⟨by simp, by simp, by simp, by simp⟩

/-! ### Rotates and bits -/

theorem rotateReg_spec (s : State) (op : RotOp) (r : Reg8) (len cost : Nat) :
    ∃ t, rotateReg s op r len cost = .next t ∧ s.onlyMain t len ∧ s.onlyReg t r (rotResult op (s.reg8 r) s.carry) ∧
      t.cpu.main.f = rotFlags s.drawnFlags (rotResult op (s.reg8 r) s.carry) (rotCarry op (s.reg8 r)) ∧
      s.storesNothing t ∧ s.charged t cost ∧ s.quiet t := flagged_spec s r _ _ len cost

theorem rotateMem_spec (s : State) (op : RotOp) (a : Word) (len cost : Nat) :
    ∃ t, rotateMem s op a len cost = .next t ∧ s.onlyMain t len ∧ s.sameRegs t ∧
      t.cpu.main.f = rotFlags s.drawnFlags (rotResult op (s.readByte a) s.carry) (rotCarry op (s.readByte a)) ∧
      s.storesByte t a (rotResult op (s.readByte a) s.carry) ∧ s.charged t cost ∧ s.quiet t :=
  flaggedStore_spec s a _ _ len cost

theorem rotateAcc_spec (s : State) (op : RotOp) (len cost : Nat) :
    ∃ t, rotateAcc s op len cost = .next t ∧ s.onlyMain t len ∧ s.onlyReg t .a (rotResult op s.cpu.main.a s.carry) ∧
      t.cpu.main.f = rotAccFlags s.drawnFlags s.flags (rotCarry op s.cpu.main.a) ∧ s.storesNothing t ∧
      s.charged t cost ∧ s.quiet t := flagged_spec s .a _ _ len cost

/-- The rotates and shifts bit by bit, as the rules give them. -/
theorem rotResult_bit (op : RotOp) (v : Byte) (c : Bool) (k : Nat) (h : k < 8) :
    (rotResult op v c).getLsbD k = rotatedBit op v c k := by
  have hl : ∀ b : Bool, (shiftLeftIn v b).getLsbD k = if k = 0 then b else v.getLsbD (k - 1) := by
    intro b
    unfold shiftLeftIn
    rw [BitVec.getLsbD_append]
    interval_cases k <;> simp
  have hr : ∀ b : Bool, (shiftRightIn b v).getLsbD k = if k = 7 then b else v.getLsbD (k + 1) := by
    intro b
    unfold shiftRightIn
    rw [BitVec.getLsbD_append]
    interval_cases k <;> simp
  cases op <;> simp only [rotResult, rotatedBit, hl, hr]

theorem rotCarry_eq (op : RotOp) (v : Byte) : rotCarry op v = rotatedOut op v := by
  cases op <;> rfl

theorem testBit_spec (s : State) (v : Byte) (b len cost : Nat) :
    ∃ t, testBit s v b len cost = .next t ∧ s.onlyMain t len ∧ s.sameRegs t ∧
      t.cpu.main.f = bitFlags s.drawnFlags s.flags (v.getLsbD b) ∧ s.storesNothing t ∧ s.charged t cost ∧ s.quiet t :=
  flagsOnly_spec s _ len cost

theorem changeReg_spec (s : State) (r : Reg8) (f : Byte → Byte) (len cost : Nat) :
    ∃ t, changeReg s r f len cost = .next t ∧ s.onlyMain t len ∧ s.onlyReg t r (f (s.reg8 r)) ∧ s.sameFlags t ∧
      s.storesNothing t ∧ s.charged t cost ∧ s.quiet t := by
  refine ⟨_, rfl, ?_, State.onlyReg_of _ _ _ _ ?_, ?_, State.storesNothing_of _ _ ?_, ?_, ?_⟩
  · cases r <;> rfl
  · cases r <;> rfl
  · cases r <;> rfl
  · exact ⟨rfl, rfl, rfl, rfl, rfl, rfl, rfl⟩
  · exact ⟨rfl, rfl, rfl, rfl⟩
  · exact ⟨rfl, rfl, rfl, rfl⟩

theorem changeMem_spec (s : State) (a : Word) (f : Byte → Byte) (len cost : Nat) :
    ∃ t, changeMem s a f len cost = .next t ∧ t.cpu = s.cpu.past len ∧ s.storesByte t a (f (s.readByte a)) ∧
      s.charged t cost ∧ s.quiet t := by
  refine ⟨_, rfl, by simp, State.storesByte_of _ _ _ _ ?_, ?_, ?_⟩
  · exact State.writeByte_sameMemory (s.advance len) s ⟨rfl, rfl, rfl, rfl, rfl, rfl, rfl⟩ a _
  · exact ⟨by simp, by simp, by simp, by simp⟩
  · exact ⟨by simp, by simp, by simp, by simp⟩

/-- `SET` and `RES` change one bit. -/
theorem withBit_bit (b : Fin 8) (v : Byte) (k : Nat) (h : k < 8) :
    (withBit b.val v).getLsbD k = if k = b.val then true else v.getLsbD k := by
  obtain ⟨b, hb⟩ := b
  simp only [withBit, BitVec.getLsbD_or, BitVec.getLsbD_shiftLeft, h, decide_true, Bool.true_and]
  interval_cases b <;> interval_cases k <;> simp

theorem withoutBit_bit (b : Fin 8) (v : Byte) (k : Nat) (h : k < 8) :
    (withoutBit b.val v).getLsbD k = if k = b.val then false else v.getLsbD k := by
  obtain ⟨b, hb⟩ := b
  simp only [withoutBit, BitVec.getLsbD_and, BitVec.getLsbD_not, BitVec.getLsbD_shiftLeft, h, decide_true,
    Bool.true_and]
  interval_cases b <;> interval_cases k <;> simp

/-! ### Jumps -/

theorem Flags.holds_iff (f : Flags) (cc : Cond) : f.holds cc = true ↔ condHolds f cc := by
  cases cc <;> simp [Flags.holds, condHolds]

theorem jump_spec (s : State) (target : Word) (len cost : Nat) :
    ∃ t, jump s target len cost = .next t ∧ t.cpu = s.cpu.jumped target ∧ s.storesNothing t ∧ s.charged t cost ∧
      s.quiet t := by
  refine ⟨_, rfl, rfl, State.storesNothing_of _ _ ?_, ?_, ?_⟩
  · exact ⟨rfl, rfl, rfl, rfl, rfl, rfl, rfl⟩
  · exact ⟨rfl, rfl, rfl, rfl⟩
  · exact ⟨rfl, rfl, rfl, rfl⟩

/-- An instruction that only moves PC over itself. -/
theorem skip_spec (s : State) (len cost : Nat) :
    ∃ t, (s.advance len).finish cost = .next t ∧ t.cpu = s.cpu.past len ∧ s.storesNothing t ∧ s.charged t cost ∧
      s.quiet t := by
  refine ⟨_, rfl, rfl, State.storesNothing_of _ _ ?_, ?_, ?_⟩
  · exact ⟨rfl, rfl, rfl, rfl, rfl, rfl, rfl⟩
  · exact ⟨rfl, rfl, rfl, rfl⟩
  · exact ⟨rfl, rfl, rfl, rfl⟩

theorem jumpIf_spec (s : State) (cc : Cond) (target : Word) (len cost costTaken : Nat) :
    ∃ t, jumpIf s (s.flags.holds cc) target len cost costTaken = .next t ∧ s.storesNothing t ∧ s.quiet t ∧
      (condHolds s.cpu.main.f cc → t.cpu = s.cpu.jumped target ∧ s.charged t costTaken) ∧
      (¬ condHolds s.cpu.main.f cc → t.cpu = s.cpu.past len ∧ s.charged t cost) := by
  unfold jumpIf
  by_cases h : s.flags.holds cc = true
  · obtain ⟨t, h1, h2, h3, h4, h5⟩ := jump_spec s target len costTaken
    rw [if_pos h]
    exact ⟨t, h1, h3, h5, fun _ => ⟨h2, h4⟩, fun n => absurd ((Flags.holds_iff _ _).mp h) n⟩
  · obtain ⟨t, h1, h2, h3, h4, h5⟩ := skip_spec s len cost
    rw [if_neg h]
    exact ⟨t, h1, h3, h5, fun n => absurd ((Flags.holds_iff _ _).mpr n) h, fun _ => ⟨h2, h4⟩⟩

theorem call_spec (s : State) (target : Word) (len cost : Nat) :
    ∃ t, call s target len cost = .next t ∧ t.cpu = { s.cpu.jumped target with sp := s.cpu.sp - 2 } ∧
      s.pushed t (s.cpu.pc + BitVec.ofNat 16 len) ∧ s.charged t cost ∧ s.quiet t := by
  refine ⟨_, rfl, by simp, ?_, ?_, ?_⟩
  · exact State.pushed_of s _ (s.advance len) _ ⟨rfl, rfl, rfl, rfl, rfl, rfl, rfl⟩ rfl
      ⟨rfl, rfl, rfl, rfl, rfl, rfl, rfl⟩
  · exact ⟨by simp, by simp, by simp, by simp⟩
  · exact ⟨by simp, by simp, by simp, by simp⟩

theorem callIf_spec (s : State) (cc : Cond) (target : Word) (len cost costTaken : Nat) :
    ∃ t, callIf s (s.flags.holds cc) target len cost costTaken = .next t ∧ s.quiet t ∧
      (condHolds s.cpu.main.f cc → t.cpu = { s.cpu.jumped target with sp := s.cpu.sp - 2 } ∧
        s.pushed t (s.cpu.pc + BitVec.ofNat 16 len) ∧ s.charged t costTaken) ∧
      (¬ condHolds s.cpu.main.f cc → t.cpu = s.cpu.past len ∧ s.storesNothing t ∧ s.charged t cost) := by
  unfold callIf
  by_cases h : s.flags.holds cc = true
  · obtain ⟨t, h1, h2, h3, h4, h5⟩ := call_spec s target len costTaken
    rw [if_pos h]
    exact ⟨t, h1, h5, fun _ => ⟨h2, h3, h4⟩, fun n => absurd ((Flags.holds_iff _ _).mp h) n⟩
  · obtain ⟨t, h1, h2, h3, h4, h5⟩ := skip_spec s len cost
    rw [if_neg h]
    exact ⟨t, h1, h5, fun n => absurd ((Flags.holds_iff _ _).mpr n) h, fun _ => ⟨h2, h3, h4⟩⟩

theorem ret_spec (s : State) (len cost : Nat) :
    ∃ t, ret s len cost = .next t ∧ t.cpu = { s.cpu.jumped s.popValue with sp := s.cpu.sp + 2 } ∧ s.storesNothing t ∧
      s.charged t cost ∧ s.quiet t := by
  refine ⟨_, rfl, rfl, State.storesNothing_of _ _ ?_, ?_, ?_⟩
  · exact ⟨rfl, rfl, rfl, rfl, rfl, rfl, rfl⟩
  · exact ⟨rfl, rfl, rfl, rfl⟩
  · exact ⟨rfl, rfl, rfl, rfl⟩

theorem retIf_spec (s : State) (cc : Cond) (len cost costTaken : Nat) :
    ∃ t, retIf s (s.flags.holds cc) len cost costTaken = .next t ∧ s.storesNothing t ∧ s.quiet t ∧
      (condHolds s.cpu.main.f cc → t.cpu = { s.cpu.jumped s.popValue with sp := s.cpu.sp + 2 } ∧ s.charged t costTaken) ∧
      (¬ condHolds s.cpu.main.f cc → t.cpu = s.cpu.past len ∧ s.charged t cost) := by
  unfold retIf
  by_cases h : s.flags.holds cc = true
  · obtain ⟨t, h1, h2, h3, h4, h5⟩ := ret_spec s len costTaken
    rw [if_pos h]
    exact ⟨t, h1, h3, h5, fun _ => ⟨h2, h4⟩, fun n => absurd ((Flags.holds_iff _ _).mp h) n⟩
  · obtain ⟨t, h1, h2, h3, h4, h5⟩ := skip_spec s len cost
    rw [if_neg h]
    exact ⟨t, h1, h3, h5, fun n => absurd ((Flags.holds_iff _ _).mpr n) h, fun _ => ⟨h2, h4⟩⟩

theorem decrementJump_spec (s : State) (e : Byte) :
    ∃ t, decrementJump s e = .next t ∧ s.storesNothing t ∧ s.quiet t ∧
      (s.cpu.main.b ≠ 1 → t.cpu = { s.cpu.jumped (relativeTarget s e) with main := { s.cpu.main with b := s.cpu.main.b - 1 } } ∧
        s.charged t 13) ∧
      (s.cpu.main.b = 1 → t.cpu = { s.cpu.past 2 with main := { s.cpu.main with b := 0 } } ∧ s.charged t 8) := by
  have hz : s.cpu.main.b - 1 = 0 ↔ s.cpu.main.b = 1 := by
    constructor <;> intro h <;> bv_omega
  unfold decrementJump
  by_cases h : s.cpu.main.b - 1 = 0
  · simp only [h, if_true]
    refine ⟨_, rfl, State.storesNothing_of _ _ ?_, ?_, fun n => absurd (hz.mp h) n, fun _ => ⟨rfl, ?_⟩⟩
    · exact ⟨rfl, rfl, rfl, rfl, rfl, rfl, rfl⟩
    · exact ⟨rfl, rfl, rfl, rfl⟩
    · exact ⟨rfl, rfl, rfl, rfl⟩
  · simp only [h, if_false]
    refine ⟨_, rfl, State.storesNothing_of _ _ ?_, ?_, fun _ => ⟨rfl, ?_⟩, fun n => absurd (hz.mpr n) h⟩
    · exact ⟨rfl, rfl, rfl, rfl, rfl, rfl, rfl⟩
    · exact ⟨rfl, rfl, rfl, rfl⟩
    · exact ⟨rfl, rfl, rfl, rfl⟩

/-- The return from an interrupt, after an instruction of `len` bytes has been passed (R433, R434). -/
theorem returnFromInterrupt_spec (s : State) (len : Nat) :
    (s.advance len).returnFromInterrupt =
      { s with cpu := { s.cpu with
          pc := joinBytes (s.readByte (s.cpu.sp + 1)) (s.readByte s.cpu.sp)
          sp := s.cpu.sp + 2, iff1 := s.cpu.iff2, inService := false } } := by
  have h : (s.advance len).popValue = joinBytes (s.readByte (s.cpu.sp + 1)) (s.readByte s.cpu.sp) := by
    unfold State.popValue
    rw [State.advance_readByte, State.advance_readByte]
    rfl
  unfold State.returnFromInterrupt
  rw [h]
  rfl

/-- `RETN` (R434). -/
theorem returnNonMaskable_spec (s : State) :
    ∃ t, returnNonMaskable s = .next t ∧
      t.cpu = { s.cpu.jumped (joinBytes (s.readByte (s.cpu.sp + 1)) (s.readByte s.cpu.sp)) with
        sp := s.cpu.sp + 2, iff1 := s.cpu.iff2, inService := false } ∧
      s.storesNothing t ∧ s.charged t 14 ∧ s.quiet t := by
  unfold returnNonMaskable
  rw [returnFromInterrupt_spec]
  refine ⟨_, rfl, rfl, State.storesNothing_of _ _ ?_, ?_, ?_⟩
  · exact ⟨rfl, rfl, rfl, rfl, rfl, rfl, rfl⟩
  · exact ⟨rfl, rfl, rfl, rfl⟩
  · exact ⟨rfl, rfl, rfl, rfl⟩

/-- `RETI`: the host is called after the pop (R433, R518). -/
theorem returnMaskable_spec (s : State) :
    ∃ t, returnMaskable s = .next t ∧
      t.cpu = { s.cpu.jumped (joinBytes (s.readByte (s.cpu.sp + 1)) (s.readByte s.cpu.sp)) with
        sp := s.cpu.sp + 2, iff1 := s.cpu.iff2, inService := false } ∧
      s.storesNothing t ∧ s.charged t 14 ∧ s.called t (.retiSignal { t.cpu with eiDelay := s.cpu.eiDelay }) := by
  unfold returnMaskable
  rw [returnFromInterrupt_spec]
  refine ⟨_, rfl, rfl, State.storesNothing_of _ _ ?_, ?_, ?_⟩
  · exact ⟨rfl, rfl, rfl, rfl, rfl, rfl, rfl⟩
  · exact ⟨rfl, rfl, rfl, rfl⟩
  · exact ⟨rfl, rfl, rfl, rfl⟩

end Sys2Proof.Machine
end

