-- ==== Sys2Proof/Laws/Load.lean ====
section
/-! SUPPORT. What each shared operation of the loads, the stack and the 16-bit counts does, once. -/

namespace Sys2Proof.Machine

theorem loadReg_spec (s : State) (r : Reg8) (v : Byte) (len cost : Nat) :
    ∃ t, loadReg s r v len cost = .next t ∧ s.onlyMain t len ∧ s.onlyReg t r v ∧ s.sameFlags t ∧
      s.storesNothing t ∧ s.charged t cost ∧ s.quiet t := by
  refine ⟨_, rfl, ?_, State.onlyReg_of _ _ _ _ ?_, ?_, State.storesNothing_of _ _ ?_, ?_, ?_⟩
  · cases r <;> rfl
  · cases r <;> rfl
  · cases r <;> rfl
  · exact ⟨rfl, rfl, rfl, rfl, rfl, rfl, rfl⟩
  · exact ⟨rfl, rfl, rfl, rfl⟩
  · exact ⟨rfl, rfl, rfl, rfl⟩

theorem storeByte_spec (s : State) (a : Word) (v : Byte) (len cost : Nat) :
    ∃ t, storeByte s a v len cost = .next t ∧ t.cpu = s.cpu.past len ∧ s.storesByte t a v ∧
      s.charged t cost ∧ s.quiet t := by
  refine ⟨_, rfl, by simp, State.storesByte_of _ _ _ _ ?_, ?_, ?_⟩
  · exact State.writeByte_sameMemory (s.advance len) s ⟨rfl, rfl, rfl, rfl, rfl, rfl, rfl⟩ a v
  · exact ⟨by simp, by simp, by simp, by simp⟩
  · exact ⟨by simp, by simp, by simp, by simp⟩

theorem loadPair_spec (s : State) (p : Pair) (v : Word) (len cost : Nat) :
    ∃ t, loadPair s p v len cost = .next t ∧ t.cpu = (s.setPair p v).cpu.past len ∧ t.pair p = v ∧
      (∀ q, q ≠ p → t.pair q = s.pair q) ∧ s.storesNothing t ∧ s.charged t cost ∧ s.quiet t := by
  have e : ∀ q, ((((s.advance len).setPair p v).endStep cost)).pair q = (s.setPair p v).pair q := by
    intro q
    cases p <;> cases q <;> rfl
  refine ⟨_, rfl, ?_, ?_, ?_, State.storesNothing_of _ _ ?_, ?_, ?_⟩
  · cases p <;> rfl
  · rw [e, State.setPair_same]
  · intro q hq
    rw [e, State.setPair_other _ _ _ _ hq]
  · cases p <;> exact ⟨rfl, rfl, rfl, rfl, rfl, rfl, rfl⟩
  · cases p <;> exact ⟨rfl, rfl, rfl, rfl⟩
  · cases p <;> exact ⟨rfl, rfl, rfl, rfl⟩

theorem loadIndex_spec (s : State) (x : IndexReg) (v : Word) (len cost : Nat) :
    ∃ t, loadIndex s x v len cost = .next t ∧ t.cpu = (s.setIndex x v).cpu.past len ∧ t.index x = v ∧
      (∀ y, y ≠ x → t.index y = s.index y) ∧ s.storesNothing t ∧ s.charged t cost ∧ s.quiet t := by
  have e : ∀ y, (((s.advance len).setIndex x v).endStep cost).index y = (s.setIndex x v).index y := by
    intro y
    cases x <;> cases y <;> rfl
  refine ⟨_, rfl, ?_, ?_, ?_, State.storesNothing_of _ _ ?_, ?_, ?_⟩
  · cases x <;> rfl
  · rw [e, State.setIndex_same]
  · intro y hy
    rw [e, State.setIndex_other _ _ _ _ hy]
  · cases x <;> exact ⟨rfl, rfl, rfl, rfl, rfl, rfl, rfl⟩
  · cases x <;> exact ⟨rfl, rfl, rfl, rfl⟩
  · cases x <;> exact ⟨rfl, rfl, rfl, rfl⟩

theorem storeWord_spec (s : State) (a v : Word) (len cost : Nat) :
    ∃ t, storeWord s a v len cost = .next t ∧ t.cpu = s.cpu.past len ∧
      s.storesTwo t a (lowByte v) (a + 1) (highByte v) ∧ s.charged t cost ∧ s.quiet t := by
  refine ⟨_, rfl, by simp, State.storesTwo_of _ _ _ _ _ _ ?_, ?_, ?_⟩
  · exact State.writeByte_sameMemory _ _
      (State.writeByte_sameMemory (s.advance len) s ⟨rfl, rfl, rfl, rfl, rfl, rfl, rfl⟩ a (lowByte v)) _ _
  · exact ⟨by simp, by simp, by simp, by simp⟩
  · exact ⟨by simp, by simp, by simp, by simp⟩

theorem pushWord_spec (s : State) (v : Word) (len cost : Nat) :
    ∃ t, pushWord s v len cost = .next t ∧ t.cpu = { s.cpu.past len with sp := s.cpu.sp - 2 } ∧ s.pushed t v ∧
      s.charged t cost ∧ s.quiet t := by
  refine ⟨_, rfl, by simp, ?_, ?_, ?_⟩
  · exact State.pushed_of s _ (s.advance len) v ⟨rfl, rfl, rfl, rfl, rfl, rfl, rfl⟩ rfl ⟨rfl, rfl, rfl, rfl, rfl, rfl, rfl⟩
  · exact ⟨by simp, by simp, by simp, by simp⟩
  · exact ⟨by simp, by simp, by simp, by simp⟩

theorem popToPair_spec (s : State) (q : PairQ) (len cost : Nat) :
    ∃ t, popToPair s q len cost = .next t ∧
      t.cpu = { (s.setPairQ q s.popValue).cpu.past len with sp := s.cpu.sp + 2 } ∧
      s.storesNothing t ∧ s.charged t cost ∧ s.quiet t := by
  refine ⟨_, rfl, ?_, State.storesNothing_of _ _ ?_, ?_, ?_⟩
  · cases q <;> rfl
  · cases q <;> exact ⟨rfl, rfl, rfl, rfl, rfl, rfl, rfl⟩
  · cases q <;> exact ⟨rfl, rfl, rfl, rfl⟩
  · cases q <;> exact ⟨rfl, rfl, rfl, rfl⟩

theorem popToIndex_spec (s : State) (x : IndexReg) (len cost : Nat) :
    ∃ t, popToIndex s x len cost = .next t ∧
      t.cpu = { (s.setIndex x s.popValue).cpu.past len with sp := s.cpu.sp + 2 } ∧
      s.storesNothing t ∧ s.charged t cost ∧ s.quiet t := by
  refine ⟨_, rfl, ?_, State.storesNothing_of _ _ ?_, ?_, ?_⟩
  · cases x <;> rfl
  · cases x <;> exact ⟨rfl, rfl, rfl, rfl, rfl, rfl, rfl⟩
  · cases x <;> exact ⟨rfl, rfl, rfl, rfl⟩
  · cases x <;> exact ⟨rfl, rfl, rfl, rfl⟩

end Sys2Proof.Machine
end

