-- ==== Sys2Proof/Laws/Ports.lean ====
section
/-! SUPPORT. What each shared operation of the input and output does, once. -/

namespace Sys2Proof.Machine

/-! ### Ports -/

/-- A port read by an instruction of `len` bytes: it goes on with a value and a state that differs from `s` in PC and in what
the access left of the host's part, or it is the fault of a bad port. -/
theorem portRead_spec (s : State) (len : Nat) (port : Word) (k : Byte → State → Outcome) :
    (∃ v t, (s.advance len).ioRead s port k = k v t ∧ s.readsPort t len port v ∧ t.draws = s.draws ∧
      t.cpu = (s.advance len).cpu ∧ t.sameMemory s ∧ s.charged t 0 ∧
      (lowByte port ∈ s.cfg.portMapIn ∨ s.cfg.portPolicy = .permissive)) ∨
    (lowByte port ∉ s.cfg.portMapIn ∧ s.cfg.portPolicy = .strict ∧
      (s.advance len).ioRead s port k = .fault (.badPort s.cpu.pc .input port none s)) := by
  rcases (s.advance len).ioRead_cases s port k with ⟨h, e⟩ | ⟨h, hp, e⟩ | ⟨h, hp, e⟩
  · have h : lowByte port ∈ s.cfg.portMapIn := h
    refine .inl ⟨_, _, e, ?_, rfl, rfl, ⟨rfl, rfl, rfl, rfl, rfl, rfl, rfl⟩, ⟨?_, rfl, rfl, rfl⟩, .inl h⟩
    · unfold State.readsPort
      rw [if_pos h]
      exact ⟨rfl, rfl, rfl, rfl, rfl⟩
    · show s.iCount = s.iCount - ((0 : Nat) : Int)
      omega
  · have h : lowByte port ∉ s.cfg.portMapIn := h
    refine .inl ⟨_, _, e, ?_, rfl, rfl, ⟨rfl, rfl, rfl, rfl, rfl, rfl, rfl⟩, ⟨?_, rfl, rfl, rfl⟩, .inr hp⟩
    · unfold State.readsPort
      rw [if_neg h]
      exact ⟨rfl, rfl, rfl, rfl, rfl⟩
    · show s.iCount = s.iCount - ((0 : Nat) : Int)
      omega
  · exact .inr ⟨h, hp, e⟩

/-- A port write from `u`, which has the memory, the configuration and the host's part of `s`. -/
theorem portWrite_spec (s u : State) (port : Word) (v : Byte) (k : State → Outcome) (hm : u.sameMemory s) (hq : s.quiet u)
    (hc : s.charged u 0) (hd : u.draws = s.draws) :
    (∃ t, u.ioWrite s port v k = k t ∧ s.writesPort t u.cpu port v ∧ t.cpu = u.cpu ∧ t.draws = s.draws ∧ s.charged t 0 ∧
      (lowByte port = s.cfg.ioBytePort ∨ lowByte port ∈ s.cfg.portMapOut ∨ s.cfg.portPolicy = .permissive)) ∨
    (lowByte port ≠ s.cfg.ioBytePort ∧ lowByte port ∉ s.cfg.portMapOut ∧ s.cfg.portPolicy = .strict ∧
      u.ioWrite s port v k = .fault (.badPort s.cpu.pc .output port (some v) s)) := by
  obtain ⟨m1, m2, m3, m4, m5, m6, m7⟩ := hm
  obtain ⟨q1, q2, q3, q4⟩ := hq
  have hrep : ∀ ev, u.hostReply ev = s.hostReply ev := by
    intro ev
    unfold State.hostReply
    rw [q3, q4]
  rcases u.ioWrite_cases s port v k with ⟨h, e⟩ | ⟨h, h', e⟩ | ⟨h, h', hp, e⟩ | ⟨h, h', hp, e⟩
  · rw [m7] at h
    refine .inl ⟨_, e, ?_, rfl, hd, hc, .inl h⟩
    unfold State.writesPort
    rw [if_pos h]
    exact ⟨⟨m1, m2, m3, rfl, m5, m6, m7⟩, q1, q2, q3, q4⟩
  · rw [m7] at h h'
    refine .inl ⟨_, e, ?_, rfl, hd, hc, .inr (.inl h')⟩
    unfold State.writesPort
    rw [if_neg h, if_pos h']
    refine ⟨⟨m1, m2, m3, m4, m5, m6, m7⟩, State.readByte_congr s _ m1 m2 m3 m4 m5 m6 m7, ?_, ?_, ?_, ?_⟩
    · simp [hrep, q1]
    · simp [hrep, q2]
    · simp [q3]
    · simp [q4]
  · rw [m7] at h h' hp
    refine .inl ⟨_, e, ?_, rfl, hd, hc, .inr (.inr hp)⟩
    unfold State.writesPort
    rw [if_neg h, if_neg h']
    exact ⟨⟨m1, m2, m3, m4, m5, m6, m7⟩, State.readByte_congr s _ m1 m2 m3 m4 m5 m6 m7, q1, q2, q3, by simp [q4]⟩
  · rw [m7] at h h' hp
    exact .inr ⟨h, h', hp, e⟩

/-- A port access is seen in the host's part and the latches alone. -/
theorem State.readsPort_of (s t u : State) (len : Nat) (port : Word) (v : Byte) (h : s.readsPort t len port v)
    (hq : t.quiet u) : s.readsPort u len port v := by
  obtain ⟨q1, q2, q3, q4⟩ := hq
  unfold State.readsPort at h ⊢
  simpa only [State.called, State.reported, q1, q2, q3, q4] using h

theorem State.writesPort_of (s t u : State) (regs : Cpu) (port : Word) (v : Byte) (h : s.writesPort t regs port v)
    (hq : t.quiet u) (hm : u.sameMemory t) : s.writesPort u regs port v := by
  obtain ⟨q1, q2, q3, q4⟩ := hq
  have hr : ∀ x, u.readByte x = t.readByte x := State.sameMemory_readByte u t hm
  obtain ⟨m1, m2, m3, m4, m5, m6, m7⟩ := hm
  unfold State.writesPort at h ⊢
  simpa only [State.sameMemory, State.sameMap, State.quiet, State.called, State.reported, q1, q2, q3, q4, m1, m2, m3, m4,
    m5, m6, m7, hr] using h

/-- The counters after a step that ends at a port access which charged nothing by itself. -/
theorem State.charged_endStep (s t : State) (cost : Nat) (h : s.charged t 0) : s.charged (t.endStep cost) cost := by
  obtain ⟨h1, h2, h3, h4⟩ := h
  refine ⟨?_, ?_, h3, h4⟩
  · show t.iCount - (cost : Int) = _
    rw [h1]
    omega
  · show t.iElapsed + cost = _
    rw [h2, Nat.add_zero]

/-! ### The instructions -/

theorem inputA_spec (s : State) (n : Byte) :
    (∃ t v, inputA s n = .next t ∧ s.readsPort t 2 (joinBytes s.cpu.main.a n) v ∧ s.onlyMain t 2 ∧ s.onlyReg t .a v ∧
      s.sameFlags t ∧ s.storesNothing t ∧ s.charged t 11) ∨
    (n ∉ s.cfg.portMapIn ∧ s.cfg.portPolicy = .strict ∧
      inputA s n = .fault (.badPort s.cpu.pc .input (joinBytes s.cpu.main.a n) none s)) := by
  rcases portRead_spec s 2 (joinBytes s.cpu.main.a n) (fun v t => (t.setA v).finish 11) with
    ⟨v, t, e, a1, _, a3, a4, a5, _⟩ | ⟨a, b, e⟩
  · refine .inl ⟨(t.setA v).endStep 11, v, e, s.readsPort_of t _ _ _ _ a1 ⟨rfl, rfl, rfl, rfl⟩, ?_,
      State.onlyReg_of _ _ _ _ ?_, ?_, State.storesNothing_of _ _ a4, State.charged_endStep _ _ _ a5⟩
    · simp [State.onlyMain, a3]
    · simp [a3, State.setReg8]
    · simp [State.sameFlags, a3]
  · exact .inr ⟨by simpa using a, b, e⟩

theorem inputReg_spec (s : State) (r : Reg8) :
    (∃ t v, inputReg s r = .next t ∧ s.readsPort t 2 s.bc v ∧ s.onlyMain t 2 ∧ s.onlyReg t r v ∧
      t.cpu.main.f = valueFlags s.drawnFlags s.flags v ∧ s.storesNothing t ∧ s.charged t 12) ∨
    (s.cpu.main.c ∉ s.cfg.portMapIn ∧ s.cfg.portPolicy = .strict ∧
      inputReg s r = .fault (.badPort s.cpu.pc .input s.bc none s)) := by
  rcases portRead_spec s 2 s.bc (fun v t => ((t.setReg8 r v).writeFlags fun d => valueFlags d s.flags v).finish 12) with
    ⟨v, t, e, a1, a2, a3, a4, a5, _⟩ | ⟨a, b, e⟩
  · refine .inl ⟨((t.setReg8 r v).writeFlags fun d => valueFlags d s.flags v).endStep 12, v, e,
      s.readsPort_of t _ _ _ _ a1 ?_, ?_, State.onlyReg_of_flags _ _ _ _ (valueFlags s.drawnFlags s.flags v) ?_, ?_,
      State.storesNothing_of _ _ ?_, State.charged_endStep _ _ _ ?_⟩
    · cases r <;> exact ⟨rfl, rfl, rfl, rfl⟩
    · cases r <;> simp [State.onlyMain, a3, State.setReg8]
    · cases r <;> simp [a2, a3, State.setReg8, State.drawnFlags]
    · cases r <;> simp [a2, State.setReg8, State.drawnFlags]
    · cases r <;> exact a4
    · cases r <;> exact a5
  · exact .inr ⟨by simpa [State.bc] using a, b, e⟩

theorem outputA_spec (s : State) (n : Byte) :
    (∃ t, outputA s n = .next t ∧ t.cpu = s.cpu.past 2 ∧ s.charged t 11 ∧
      s.writesPort t { s.cpu with pc := s.cpu.pc + 2 } (joinBytes s.cpu.main.a n) s.cpu.main.a) ∨
    (n ≠ s.cfg.ioBytePort ∧ n ∉ s.cfg.portMapOut ∧ s.cfg.portPolicy = .strict ∧
      outputA s n = .fault (.badPort s.cpu.pc .output (joinBytes s.cpu.main.a n) (some s.cpu.main.a) s)) := by
  rcases portWrite_spec s (s.advance 2) (joinBytes s.cpu.main.a n) s.cpu.main.a (fun t => t.finish 11)
    ⟨rfl, rfl, rfl, rfl, rfl, rfl, rfl⟩ ⟨rfl, rfl, rfl, rfl⟩ ⟨by simp, by simp, rfl, rfl⟩ rfl with
    ⟨t, e, a1, a2, _, a4, _⟩ | ⟨a, b, c, e⟩
  · refine .inl ⟨t.endStep 11, e, by simp [a2], State.charged_endStep _ _ _ a4, s.writesPort_of t _ _ _ _ a1 ?_ ?_⟩
    · exact ⟨rfl, rfl, rfl, rfl⟩
    · exact ⟨rfl, rfl, rfl, rfl, rfl, rfl, rfl⟩
  · exact .inr ⟨by simpa using a, by simpa using b, c, e⟩

theorem outputReg_spec (s : State) (r : Reg8) :
    (∃ t, outputReg s r = .next t ∧ t.cpu = s.cpu.past 2 ∧ s.charged t 12 ∧
      s.writesPort t { s.cpu with pc := s.cpu.pc + 2 } s.bc (s.reg8 r)) ∨
    (s.cpu.main.c ≠ s.cfg.ioBytePort ∧ s.cpu.main.c ∉ s.cfg.portMapOut ∧ s.cfg.portPolicy = .strict ∧
      outputReg s r = .fault (.badPort s.cpu.pc .output s.bc (some (s.reg8 r)) s)) := by
  rcases portWrite_spec s (s.advance 2) s.bc (s.reg8 r) (fun t => t.finish 12)
    ⟨rfl, rfl, rfl, rfl, rfl, rfl, rfl⟩ ⟨rfl, rfl, rfl, rfl⟩ ⟨by simp, by simp, rfl, rfl⟩ rfl with
    ⟨t, e, a1, a2, _, a4, _⟩ | ⟨a, b, c, e⟩
  · refine .inl ⟨t.endStep 12, e, by simp [a2], State.charged_endStep _ _ _ a4, s.writesPort_of t _ _ _ _ a1 ?_ ?_⟩
    · exact ⟨rfl, rfl, rfl, rfl⟩
    · exact ⟨rfl, rfl, rfl, rfl, rfl, rfl, rfl⟩
  · exact .inr ⟨by simpa [State.bc] using a, by simpa [State.bc] using b, c, e⟩

/-- The new B is 0 exactly when the old one is 1. -/
theorem count_zero (b : Byte) : b - 1 = 0 ↔ b = 1 := by
  constructor <;> intro h <;> bv_omega

/-- The end of an iteration of block I/O (R472): the two paths of a state `u` with PC past the instruction. -/
theorem iterate_spec (s u : State) (repeats : Bool) (b : Byte)
    (hu : u.cpu = { s.cpu with main := u.cpu.main, pc := s.cpu.pc + 2 }) (hc : s.charged u 0) :
    ∃ t, u.iterate (repeats && b - 1 != 0) = .next t ∧ t.cpu.main = u.cpu.main ∧ u.quiet t ∧ t.sameMemory u ∧
      (repeats = true ∧ b ≠ 1 → s.onlyMain t 0 ∧ s.charged t 21) ∧
      (repeats = false ∨ b = 1 → s.onlyMain t 2 ∧ s.charged t 16) := by
  rw [State.iterate_eq]
  have hcond : (repeats && b - 1 != 0) = true ↔ repeats = true ∧ b ≠ 1 := by
    rw [Bool.and_eq_true, bne_iff_ne, ne_eq, count_zero]
  by_cases h : (repeats && b - 1 != 0) = true
  · rw [if_pos h]
    refine ⟨_, rfl, rfl, ⟨rfl, rfl, rfl, rfl⟩, ⟨rfl, rfl, rfl, rfl, rfl, rfl, rfl⟩, fun _ => ⟨?_, ?_⟩, fun n => ?_⟩
    · show ({ u.cpu with pc := u.cpu.pc - 2, eiDelay := false } : Cpu) =
        { s.cpu with main := u.cpu.main, pc := s.cpu.pc + BitVec.ofNat 16 0, eiDelay := false }
      rw [hu]
      simp
    · exact State.charged_endStep s (u.setPc (u.cpu.pc - 2)) 21 hc
    · obtain ⟨h1, h2⟩ := hcond.mp h
      rcases n with n | n
      · rw [h1] at n
        cases n
      · exact absurd n h2
  · rw [if_neg h]
    refine ⟨_, rfl, rfl, ⟨rfl, rfl, rfl, rfl⟩, ⟨rfl, rfl, rfl, rfl, rfl, rfl, rfl⟩, fun n => ?_, fun _ => ⟨?_, ?_⟩⟩
    · exact absurd (hcond.mpr n) h
    · show ({ u.cpu with eiDelay := false } : Cpu) = { s.cpu with main := u.cpu.main, pc := s.cpu.pc + 2, eiDelay := false }
      rw [hu]
    · exact State.charged_endStep s u 16 hc

/-- One iteration of a block input (R462 to R465, R472). -/
theorem blockIn_spec (s : State) (move : Word) (repeats : Bool) :
    (∃ t v, blockIn s move repeats = .next t ∧ s.readsPort t 2 s.bc v ∧ s.storesByte t s.hl v ∧
      t.cpu.main.b = s.cpu.main.b - 1 ∧ t.hl = s.hl + move ∧ t.cpu.main.c = s.cpu.main.c ∧ t.de = s.de ∧
      t.cpu.main.a = s.cpu.main.a ∧ t.cpu.main.f = blockIoFlags s.drawnFlags (s.cpu.main.b - 1) ∧
      (repeats = true ∧ s.cpu.main.b ≠ 1 → s.onlyMain t 0 ∧ s.charged t 21) ∧
      (repeats = false ∨ s.cpu.main.b = 1 → s.onlyMain t 2 ∧ s.charged t 16)) ∨
    (s.cpu.main.c ∉ s.cfg.portMapIn ∧ s.cfg.portPolicy = .strict ∧
      blockIn s move repeats = .fault (.badPort s.cpu.pc .input s.bc none s)) := by
  unfold blockIn
  rcases portRead_spec s 2 s.bc _ with ⟨v, t, e, a1, a2, a3, a4, a5, _⟩ | ⟨a, b, e⟩
  · rw [e]
    let w := (((t.writeByte s.hl v).setB (s.cpu.main.b - 1)).setHl (s.hl + move)).writeFlags
      fun d => blockIoFlags d (s.cpu.main.b - 1)
    have hw : w.cpu = { s.cpu with main := w.cpu.main, pc := s.cpu.pc + 2 } := by simp [w, a3]
    have hc : s.charged w 0 := by
      obtain ⟨c1, c2, c3, c4⟩ := a5
      exact ⟨by simpa [w] using c1, by simpa [w] using c2, by simpa [w] using c3, by simpa [w] using c4⟩
    obtain ⟨u, h1, h2, ⟨q1, q2, q3, q4⟩, h4, h5, h6⟩ := iterate_spec s w repeats s.cpu.main.b hw hc
    refine .inl ⟨u, v, h1, s.readsPort_of t _ _ _ _ a1 ?_, State.storesByte_of _ _ _ _ ?_, ?_, ?_, ?_, ?_, ?_, ?_, h5, h6⟩
    · exact ⟨by simp [q1, w], by simp [q2, w], by simp [q3, w], by simp [q4, w]⟩
    · obtain ⟨m1, m2, m3, m4, m5, m6, m7⟩ := h4
      obtain ⟨n1, n2, n3, n4, n5, n6, n7⟩ := State.writeByte_sameMemory t s a4 s.hl v
      exact ⟨m1.trans n1, m2.trans n2, m3.trans n3, m4.trans n4, m5.trans n5, m6.trans n6, m7.trans n7⟩
    · simp [h2, w]
    · simp [State.hl, h2, w, joinBytes_halves]
    · simp [h2, w, a3]
    · simp [State.de, h2, w, a3]
    · simp [h2, w, a3]
    · simp [h2, w, State.drawnFlags, a2]
  · exact .inr ⟨by simpa [State.bc] using a, b, e⟩

/-- One iteration of a block output (R468 to R472). -/
theorem blockOut_spec (s : State) (move : Word) (repeats : Bool) :
    (∃ t, blockOut s move repeats = .next t ∧
      s.writesPort t { s.cpu with pc := s.cpu.pc + 2, main := { s.cpu.main with b := s.cpu.main.b - 1 } }
        (joinBytes (s.cpu.main.b - 1) s.cpu.main.c) (s.readByte s.hl) ∧
      t.cpu.main.b = s.cpu.main.b - 1 ∧ t.hl = s.hl + move ∧ t.cpu.main.c = s.cpu.main.c ∧ t.de = s.de ∧
      t.cpu.main.a = s.cpu.main.a ∧ t.cpu.main.f = blockIoFlags s.drawnFlags (s.cpu.main.b - 1) ∧
      (repeats = true ∧ s.cpu.main.b ≠ 1 → s.onlyMain t 0 ∧ s.charged t 21) ∧
      (repeats = false ∨ s.cpu.main.b = 1 → s.onlyMain t 2 ∧ s.charged t 16)) ∨
    (s.cpu.main.c ≠ s.cfg.ioBytePort ∧ s.cpu.main.c ∉ s.cfg.portMapOut ∧ s.cfg.portPolicy = .strict ∧
      blockOut s move repeats = .fault (.badPort s.cpu.pc .output (joinBytes (s.cpu.main.b - 1) s.cpu.main.c)
        (some (s.readByte s.hl)) s)) := by
  unfold blockOut
  rcases portWrite_spec s ((s.advance 2).setB (s.cpu.main.b - 1)) (joinBytes (s.cpu.main.b - 1) s.cpu.main.c)
    (s.readByte s.hl)
    (fun u => ((u.setHl (s.hl + move)).writeFlags fun d => blockIoFlags d (s.cpu.main.b - 1)).iterate
      (repeats && s.cpu.main.b - 1 != 0))
    ⟨rfl, rfl, rfl, rfl, rfl, rfl, rfl⟩ ⟨rfl, rfl, rfl, rfl⟩ ⟨by simp, by simp, rfl, rfl⟩ rfl with
    ⟨t, e, a1, a2, a3, a4, _⟩ | ⟨a, b, c, e⟩
  · let w := (t.setHl (s.hl + move)).writeFlags fun d => blockIoFlags d (s.cpu.main.b - 1)
    have hw : w.cpu = { s.cpu with main := w.cpu.main, pc := s.cpu.pc + 2 } := by simp [w, a2]
    have hc : s.charged w 0 := a4
    obtain ⟨u, h1, h2, h3, h4, h5, h6⟩ := iterate_spec s w repeats s.cpu.main.b hw hc
    refine .inl ⟨u, e.trans h1, s.writesPort_of t _ _ _ _ a1 h3 h4, ?_, ?_, ?_, ?_, ?_, ?_, h5, h6⟩
    · simp [h2, w, a2]
    · simp [State.hl, h2, w, joinBytes_halves]
    · simp [h2, w, a2]
    · simp [State.de, h2, w, a2]
    · simp [h2, w, a2]
    · simp [h2, w, State.drawnFlags, a3]
  · exact .inr ⟨by simpa using a, by simpa using b, c, e⟩

end Sys2Proof.Machine
end

