-- ==== Sys2Proof/Laws/Routine.lean ====
section
/-! SUPPORT. What every instruction but `EI` and `PATCH` keeps: the ROMs, the configuration, the canonical memories and
their bounds, the requests that were pending, and the accounting. Said once per shared operation, and once for `exec`. -/

namespace Sys2Proof.Machine

/-- What one instruction leaves of the machine around the registers. -/
structure Routine (s t : State) : Prop where
  monitorRom : t.monitorRom = s.monitorRom
  rom : t.rom = s.rom
  romEnableMask : t.romEnableMask = s.romEnableMask
  cfg : t.cfg = s.cfg
  memoryWf : s.memoryWf → t.memoryWf
  memoryInside : s.cfg.valid = true → s.memoryInside → t.memoryInside
  eiDelay : t.cpu.eiDelay = false
  charged : ∃ cost : Nat, 4 ≤ cost ∧ cost ≤ 23 ∧ s.charged t cost
  intPending : s.intPending = true → t.intPending = true
  nmiPending : s.nmiPending = true → t.nmiPending = true
  told : elapsedTold t.hostLog = elapsedTold s.hostLog

/-- The memory's part of `Routine`. -/
structure KeepsRom (s t : State) : Prop where
  monitorRom : t.monitorRom = s.monitorRom
  rom : t.rom = s.rom
  romEnableMask : t.romEnableMask = s.romEnableMask
  cfg : t.cfg = s.cfg
  memoryWf : s.memoryWf → t.memoryWf
  memoryInside : s.cfg.valid = true → s.memoryInside → t.memoryInside

theorem KeepsRom.of_same (s t u : State) (h : t.sameMemory u) (hu : KeepsRom s u) : KeepsRom s t := by
  obtain ⟨h1, h2, h3, h4, h5, h6, h7⟩ := h
  refine ⟨h2.trans hu.monitorRom, h3.trans hu.rom, h6.trans hu.romEnableMask, h7.trans hu.cfg, fun w => ?_, fun v w => ?_⟩
  · obtain ⟨w1, w2, w3⟩ := hu.memoryWf w
    exact ⟨h1 ▸ w1, h2 ▸ w2, h3 ▸ w3⟩
  · have := hu.memoryInside v w
    unfold State.memoryInside
    rw [h1, h2, h3, h7]
    exact this

theorem KeepsRom.write (s u : State) (a : Word) (v : Byte) (h : KeepsRom s u) : KeepsRom s (u.writeByte a v) :=
  ⟨by simp [h.monitorRom], by simp [h.rom], by simp [h.romEnableMask], by simp [h.cfg],
    fun w => u.writeByte_memoryWf a v (h.memoryWf w), fun hv w => u.writeByte_inside a v (h.cfg ▸ hv) (h.memoryInside hv w)⟩

theorem KeepsRom.refl (s : State) : KeepsRom s s := ⟨rfl, rfl, rfl, rfl, id, fun _ => id⟩

theorem State.storesNothing.keepsRom {s t : State} (h : s.storesNothing t) : KeepsRom s t :=
  KeepsRom.of_same s t s h.1 (.refl s)

theorem State.storesByte.keepsRom {s t : State} {a : Word} {v : Byte} (h : s.storesByte t a v) : KeepsRom s t :=
  KeepsRom.of_same s t _ h.1 ((KeepsRom.refl s).write s s a v)

theorem State.storesTwo.keepsRom {s t : State} {a b : Word} {v w : Byte} (h : s.storesTwo t a v b w) : KeepsRom s t :=
  KeepsRom.of_same s t _ h.1 (((KeepsRom.refl s).write s s a v).write s _ b w)

/-- An instruction that calls no host. -/
theorem Routine.of_quiet {s t : State} {cost : Nat} (hm : KeepsRom s t) (he : t.cpu.eiDelay = false)
    (hc : s.charged t cost) (hq : s.quiet t) (h4 : 4 ≤ cost) (h23 : cost ≤ 23) : Routine s t where
  monitorRom := hm.monitorRom
  rom := hm.rom
  romEnableMask := hm.romEnableMask
  cfg := hm.cfg
  memoryWf := hm.memoryWf
  memoryInside := hm.memoryInside
  eiDelay := he
  charged := ⟨cost, h4, h23, hc⟩
  intPending h := hq.1.trans h
  nmiPending h := hq.2.1.trans h
  told := by rw [hq.2.2.2]

/-- What a call or a diagnostic leaves of the host's part. -/
structure KeepsRequests (s t : State) : Prop where
  intPending : s.intPending = true → t.intPending = true
  nmiPending : s.nmiPending = true → t.nmiPending = true
  told : elapsedTold t.hostLog = elapsedTold s.hostLog

theorem KeepsRequests.of_quiet {s t : State} (h : s.quiet t) : KeepsRequests s t :=
  ⟨h.1.trans, h.2.1.trans, by rw [h.2.2.2]⟩

theorem KeepsRequests.of_called {s t : State} {ev : HostEvent} (h : s.called t ev) (he : elapsedTold [ev] = 0) :
    KeepsRequests s t := by
  refine ⟨fun w => by rw [h.1, w]; rfl, fun w => by rw [h.2.1, w]; rfl, ?_⟩
  rw [h.2.2.2]
  cases ev <;> simp_all [elapsedTold]

theorem KeepsRequests.of_reported {s t : State} {dir : PortDir} {port : Word} {value : Option Byte}
    (h : s.reported t (.badPort dir port value)) : KeepsRequests s t :=
  ⟨h.1.trans, h.2.1.trans, by rw [h.2.2.2]; rfl⟩

theorem State.readsPort.keepsRequests {s t : State} {len : Nat} {port : Word} {v : Byte} (h : s.readsPort t len port v) :
    KeepsRequests s t := by
  unfold State.readsPort at h
  split at h
  · exact .of_called h.2 rfl
  · exact .of_reported h.2

theorem State.writesPort.keepsRequests {s t : State} {regs : Cpu} {port : Word} {v : Byte}
    (h : s.writesPort t regs port v) : KeepsRequests s t := by
  unfold State.writesPort at h
  split at h
  · exact .of_quiet h.2
  · obtain ⟨_, _, h⟩ := h
    split at h
    · exact .of_called h rfl
    · exact .of_reported h

theorem State.writesPort.keepsRom {s t : State} {regs : Cpu} {port : Word} {v : Byte} (h : s.writesPort t regs port v) :
    KeepsRom s t := by
  unfold State.writesPort at h
  split at h
  · exact .of_same s t _ h.1 ⟨rfl, rfl, rfl, rfl, id, fun _ => id⟩
  · exact .of_same s t s h.1 (.refl s)

/-- An instruction that may call the host. -/
theorem Routine.of_port {s t : State} {cost : Nat} (hm : KeepsRom s t) (he : t.cpu.eiDelay = false)
    (hc : s.charged t cost) (hq : KeepsRequests s t) (h4 : 4 ≤ cost) (h23 : cost ≤ 23) : Routine s t where
  monitorRom := hm.monitorRom
  rom := hm.rom
  romEnableMask := hm.romEnableMask
  cfg := hm.cfg
  memoryWf := hm.memoryWf
  memoryInside := hm.memoryInside
  eiDelay := he
  charged := ⟨cost, h4, h23, hc⟩
  intPending := hq.intPending
  nmiPending := hq.nmiPending
  told := hq.told

theorem State.onlyMain.eiDelay {s t : State} {len : Nat} (h : s.onlyMain t len) : t.cpu.eiDelay = false := by
  rw [h]

/-- The outcome completes, and what it leaves is routine. -/
def Completes (s : State) (o : Outcome) : Prop := ∃ t, o = .next t ∧ Routine s t

/-- The outcome completes, or it is the fault of a bad port under the strict policy: the low byte of the port has no
handler in `handlers` and is not the banking port `io`, where there is one. -/
def CompletesOrBadPort (s : State) (o : Outcome) (input : Bool) : Prop :=
  Completes s o ∨ s.cfg.portPolicy = .strict ∧
    (∃ b, if input then b ∉ s.cfg.portMapIn else b ≠ s.cfg.ioBytePort ∧ b ∉ s.cfg.portMapOut) ∧ ∃ r, o = .fault r

/-! ### The shared operations -/

theorem loadReg_routine (s : State) (r : Reg8) (v : Byte) (len cost : Nat) (h4 : 4 ≤ cost) (h23 : cost ≤ 23) :
    Completes s (loadReg s r v len cost) := by
  obtain ⟨t, e, h1, _, _, h2, h3, h4'⟩ := loadReg_spec s r v len cost
  exact ⟨t, e, .of_quiet h2.keepsRom h1.eiDelay h3 h4' h4 h23⟩

theorem storeByte_routine (s : State) (a : Word) (v : Byte) (len cost : Nat) (h4 : 4 ≤ cost) (h23 : cost ≤ 23) :
    Completes s (storeByte s a v len cost) := by
  obtain ⟨t, e, h1, h2, h3, h4'⟩ := storeByte_spec s a v len cost
  exact ⟨t, e, .of_quiet h2.keepsRom (by rw [h1]) h3 h4' h4 h23⟩

theorem loadPair_routine (s : State) (p : Pair) (v : Word) (len cost : Nat) (h4 : 4 ≤ cost) (h23 : cost ≤ 23) :
    Completes s (loadPair s p v len cost) := by
  obtain ⟨t, e, h1, _, _, h2, h3, h4'⟩ := loadPair_spec s p v len cost
  exact ⟨t, e, .of_quiet h2.keepsRom (by rw [h1]) h3 h4' h4 h23⟩

theorem loadIndex_routine (s : State) (x : IndexReg) (v : Word) (len cost : Nat) (h4 : 4 ≤ cost) (h23 : cost ≤ 23) :
    Completes s (loadIndex s x v len cost) := by
  obtain ⟨t, e, h1, _, _, h2, h3, h4'⟩ := loadIndex_spec s x v len cost
  exact ⟨t, e, .of_quiet h2.keepsRom (by rw [h1]) h3 h4' h4 h23⟩

theorem storeWord_routine (s : State) (a v : Word) (len cost : Nat) (h4 : 4 ≤ cost) (h23 : cost ≤ 23) :
    Completes s (storeWord s a v len cost) := by
  obtain ⟨t, e, h1, h2, h3, h4'⟩ := storeWord_spec s a v len cost
  exact ⟨t, e, .of_quiet h2.keepsRom (by rw [h1]) h3 h4' h4 h23⟩

theorem pushWord_routine (s : State) (v : Word) (len cost : Nat) (h4 : 4 ≤ cost) (h23 : cost ≤ 23) :
    Completes s (pushWord s v len cost) := by
  obtain ⟨t, e, h1, h2, h3, h4'⟩ := pushWord_spec s v len cost
  exact ⟨t, e, .of_quiet h2.keepsRom (by rw [h1]) h3 h4' h4 h23⟩

theorem popToPair_routine (s : State) (q : PairQ) (len cost : Nat) (h4 : 4 ≤ cost) (h23 : cost ≤ 23) :
    Completes s (popToPair s q len cost) := by
  obtain ⟨t, e, h1, h2, h3, h4'⟩ := popToPair_spec s q len cost
  exact ⟨t, e, .of_quiet h2.keepsRom (by rw [h1]) h3 h4' h4 h23⟩

theorem popToIndex_routine (s : State) (x : IndexReg) (len cost : Nat) (h4 : 4 ≤ cost) (h23 : cost ≤ 23) :
    Completes s (popToIndex s x len cost) := by
  obtain ⟨t, e, h1, h2, h3, h4'⟩ := popToIndex_spec s x len cost
  exact ⟨t, e, .of_quiet h2.keepsRom (by rw [h1]) h3 h4' h4 h23⟩

theorem blockMove_routine (s : State) (move : Word) (repeats : Bool) : Completes s (blockMove s move repeats) := by
  obtain ⟨t, e, _, _, _, _, _, h2, h4', h5, h6⟩ := blockMove_spec s move repeats
  by_cases h : repeats = true ∧ s.bc - 1 ≠ 0
  · exact ⟨t, e, .of_quiet h2.keepsRom (h5 h).1.eiDelay (h5 h).2 h4' (by decide) (by decide)⟩
  · have h' : repeats = false ∨ s.bc - 1 = 0 := by
      cases repeats
      · exact .inl rfl
      · exact .inr (by simpa using h)
    exact ⟨t, e, .of_quiet h2.keepsRom (h6 h').1.eiDelay (h6 h').2 h4' (by decide) (by decide)⟩

theorem blockSearch_routine (s : State) (move : Word) (repeats : Bool) : Completes s (blockSearch s move repeats) := by
  obtain ⟨t, e, _, _, _, _, _, h2, h4', h5, h6⟩ := blockSearch_spec s move repeats
  by_cases h : repeats = true ∧ s.bc - 1 ≠ 0 ∧ s.cpu.main.a ≠ s.readByte s.hl
  · exact ⟨t, e, .of_quiet h2.keepsRom (h5 h).1.eiDelay (h5 h).2 h4' (by decide) (by decide)⟩
  · have h' : repeats = false ∨ s.bc - 1 = 0 ∨ s.cpu.main.a = s.readByte s.hl := by
      by_cases hr : repeats = true
      · by_cases hb : s.bc - 1 = 0
        · exact .inr (.inl hb)
        · exact .inr (.inr (Classical.byContradiction fun n => h ⟨hr, hb, n⟩))
      · exact .inl (by simpa using hr)
    exact ⟨t, e, .of_quiet h2.keepsRom (h6 h').1.eiDelay (h6 h').2 h4' (by decide) (by decide)⟩

theorem flagged_routine (s : State) (r : Reg8) (v : Byte) (f : Flags → Flags) (len cost : Nat) (h4 : 4 ≤ cost)
    (h23 : cost ≤ 23) : Completes s ((((s.advance len).setReg8 r v).writeFlags f).finish cost) := by
  obtain ⟨t, e, h1, _, _, h2, h3, h4'⟩ := flagged_spec s r v f len cost
  exact ⟨t, e, .of_quiet h2.keepsRom h1.eiDelay h3 h4' h4 h23⟩

theorem flagsOnly_routine (s : State) (f : Flags → Flags) (len cost : Nat) (h4 : 4 ≤ cost) (h23 : cost ≤ 23) :
    Completes s (((s.advance len).writeFlags f).finish cost) := by
  obtain ⟨t, e, h1, _, _, h2, h3, h4'⟩ := flagsOnly_spec s f len cost
  exact ⟨t, e, .of_quiet h2.keepsRom h1.eiDelay h3 h4' h4 h23⟩

theorem flaggedStore_routine (s : State) (a : Word) (v : Byte) (f : Flags → Flags) (len cost : Nat) (h4 : 4 ≤ cost)
    (h23 : cost ≤ 23) : Completes s ((((s.advance len).writeByte a v).writeFlags f).finish cost) := by
  obtain ⟨t, e, h1, _, _, h2, h3, h4'⟩ := flaggedStore_spec s a v f len cost
  exact ⟨t, e, .of_quiet h2.keepsRom h1.eiDelay h3 h4' h4 h23⟩

theorem flaggedHl_routine (s : State) (v : Word) (f : Flags → Flags) (len cost : Nat) (h4 : 4 ≤ cost)
    (h23 : cost ≤ 23) : Completes s ((((s.advance len).setHl v).writeFlags f).finish cost) := by
  obtain ⟨t, e, h1, _, _, _, _, _, h2, h3, h4'⟩ := flaggedHl_spec s v f len cost
  exact ⟨t, e, .of_quiet h2.keepsRom h1.eiDelay h3 h4' h4 h23⟩

theorem addIndex_routine (s : State) (x : IndexReg) (b : Word) (len cost : Nat) (h4 : 4 ≤ cost) (h23 : cost ≤ 23) :
    Completes s (addIndex s x b len cost) := by
  obtain ⟨t, e, h1, _, h2, h3, h4'⟩ := addIndex_spec s x b len cost
  exact ⟨t, e, .of_quiet h2.keepsRom (by rw [h1]) h3 h4' h4 h23⟩

theorem countPair_routine (s : State) (p : Pair) (v : Word) (len cost : Nat) (h4 : 4 ≤ cost) (h23 : cost ≤ 23) :
    Completes s (countPair s p v len cost) := by
  obtain ⟨t, e, h1, _, _, _, h2, h3, h4'⟩ := countPair_spec s p v len cost
  exact ⟨t, e, .of_quiet h2.keepsRom (by rw [h1]) h3 h4' h4 h23⟩

theorem countIndex_routine (s : State) (x : IndexReg) (v : Word) (len cost : Nat) (h4 : 4 ≤ cost) (h23 : cost ≤ 23) :
    Completes s (countIndex s x v len cost) := by
  obtain ⟨t, e, h1, _, _, h2, h3, h4'⟩ := countIndex_spec s x v len cost
  exact ⟨t, e, .of_quiet h2.keepsRom (by rw [h1]) h3 h4' h4 h23⟩

theorem changeReg_routine (s : State) (r : Reg8) (f : Byte → Byte) (len cost : Nat) (h4 : 4 ≤ cost) (h23 : cost ≤ 23) :
    Completes s (changeReg s r f len cost) := by
  obtain ⟨t, e, h1, _, _, h2, h3, h4'⟩ := changeReg_spec s r f len cost
  exact ⟨t, e, .of_quiet h2.keepsRom h1.eiDelay h3 h4' h4 h23⟩

theorem changeMem_routine (s : State) (a : Word) (f : Byte → Byte) (len cost : Nat) (h4 : 4 ≤ cost) (h23 : cost ≤ 23) :
    Completes s (changeMem s a f len cost) := by
  obtain ⟨t, e, h1, h2, h3, h4'⟩ := changeMem_spec s a f len cost
  exact ⟨t, e, .of_quiet h2.keepsRom (by rw [h1]) h3 h4' h4 h23⟩

theorem jump_routine (s : State) (target : Word) (len cost : Nat) (h4 : 4 ≤ cost) (h23 : cost ≤ 23) :
    Completes s (jump s target len cost) := by
  obtain ⟨t, e, h1, h2, h3, h4'⟩ := jump_spec s target len cost
  exact ⟨t, e, .of_quiet h2.keepsRom (by rw [h1]) h3 h4' h4 h23⟩

theorem skip_routine (s : State) (len cost : Nat) (h4 : 4 ≤ cost) (h23 : cost ≤ 23) :
    Completes s ((s.advance len).finish cost) := by
  obtain ⟨t, e, h1, h2, h3, h4'⟩ := skip_spec s len cost
  exact ⟨t, e, .of_quiet h2.keepsRom (by rw [h1]) h3 h4' h4 h23⟩

theorem jumpIf_routine (s : State) (taken : Bool) (target : Word) (len cost costTaken : Nat) (h4 : 4 ≤ cost)
    (h23 : cost ≤ 23) (t4 : 4 ≤ costTaken) (t23 : costTaken ≤ 23) :
    Completes s (jumpIf s taken target len cost costTaken) := by
  cases taken
  · exact skip_routine s len cost h4 h23
  · exact jump_routine s target len costTaken t4 t23

theorem call_routine (s : State) (target : Word) (len cost : Nat) (h4 : 4 ≤ cost) (h23 : cost ≤ 23) :
    Completes s (call s target len cost) := by
  obtain ⟨t, e, h1, h2, h3, h4'⟩ := call_spec s target len cost
  exact ⟨t, e, .of_quiet h2.keepsRom (by rw [h1]) h3 h4' h4 h23⟩

theorem callIf_routine (s : State) (taken : Bool) (target : Word) (len cost costTaken : Nat) (h4 : 4 ≤ cost)
    (h23 : cost ≤ 23) (t4 : 4 ≤ costTaken) (t23 : costTaken ≤ 23) :
    Completes s (callIf s taken target len cost costTaken) := by
  cases taken
  · exact skip_routine s len cost h4 h23
  · exact call_routine s target len costTaken t4 t23

theorem ret_routine (s : State) (len cost : Nat) (h4 : 4 ≤ cost) (h23 : cost ≤ 23) : Completes s (ret s len cost) := by
  obtain ⟨t, e, h1, h2, h3, h4'⟩ := ret_spec s len cost
  exact ⟨t, e, .of_quiet h2.keepsRom (by rw [h1]) h3 h4' h4 h23⟩

theorem retIf_routine (s : State) (taken : Bool) (len cost costTaken : Nat) (h4 : 4 ≤ cost) (h23 : cost ≤ 23)
    (t4 : 4 ≤ costTaken) (t23 : costTaken ≤ 23) : Completes s (retIf s taken len cost costTaken) := by
  cases taken
  · exact skip_routine s len cost h4 h23
  · exact ret_routine s len costTaken t4 t23

theorem decrementJump_routine (s : State) (e : Byte) : Completes s (decrementJump s e) := by
  obtain ⟨t, h, h2, h4', h5, h6⟩ := decrementJump_spec s e
  by_cases hb : s.cpu.main.b = 1
  · exact ⟨t, h, .of_quiet h2.keepsRom (by rw [(h6 hb).1]) (h6 hb).2 h4' (by decide) (by decide)⟩
  · exact ⟨t, h, .of_quiet h2.keepsRom (by rw [(h5 hb).1]) (h5 hb).2 h4' (by decide) (by decide)⟩

theorem returnNonMaskable_routine (s : State) : Completes s (returnNonMaskable s) := by
  obtain ⟨t, e, h1, h2, h3, h4⟩ := returnNonMaskable_spec s
  exact ⟨t, e, .of_quiet h2.keepsRom (by rw [h1]) h3 h4 (by decide) (by decide)⟩

theorem returnMaskable_routine (s : State) : Completes s (returnMaskable s) := by
  obtain ⟨t, e, h1, h2, h3, h4⟩ := returnMaskable_spec s
  exact ⟨t, e, .of_port h2.keepsRom (by rw [h1]) h3 (.of_called h4 rfl) (by decide) (by decide)⟩

/-- A control instruction whose state `t` differs from `s` in the CPU's registers alone. -/
theorem control_routine (s t : State) (cost : Nat) (h : t = ({ s with cpu := t.cpu } : State)) (h4 : 4 ≤ cost)
    (h23 : cost ≤ 23) : Completes s (t.finish cost) := by
  obtain ⟨u, e, h1, h2, h3, h4'⟩ := control_spec s t cost h
  exact ⟨u, e, .of_quiet h2.keepsRom (by rw [h1]) h3 h4' h4 h23⟩

theorem exchangeStack_routine (s u : State) (len cost : Nat) (v : Word) (h4 : 4 ≤ cost) (h23 : cost ≤ 23)
    (h : u = { exchangeStack (s.advance len) v with cpu := u.cpu }) : Completes s (u.finish cost) := by
  have hm := exchangeStack_sameMemory s (s.advance len) v ⟨rfl, rfl, rfl, rfl, rfl, rfl, rfl⟩ rfl
  rw [h]
  refine ⟨_, rfl, .of_quiet (cost := cost) ?_ rfl ?_ ?_ h4 h23⟩
  · exact KeepsRom.of_same s _ _ hm (KeepsRom.write s _ s.cpu.sp (lowByte v)
      ((KeepsRom.refl s).write s s (s.cpu.sp + 1) (highByte v)))
  · exact ⟨by simp [exchangeStack], by simp [exchangeStack], by simp [exchangeStack], by simp [exchangeStack]⟩
  · exact ⟨by simp [exchangeStack], by simp [exchangeStack], by simp [exchangeStack], by simp [exchangeStack]⟩

theorem loadFromR_routine (s : State) : Completes s (loadFromR s) :=
  ⟨_, rfl, .of_quiet (cost := 9) ⟨rfl, rfl, rfl, rfl, id, fun _ => id⟩ rfl ⟨rfl, rfl, rfl, rfl⟩ ⟨rfl, rfl, rfl, rfl⟩ (by decide)
    (by decide)⟩

theorem digitRotate_routine (s : State) (digits : Byte → Byte → Byte × Byte) : Completes s (digitRotate s digits) := by
  have h := KeepsRom.write s (s.advance 2) s.hl (digits s.cpu.main.a (s.readByte s.hl)).2 ⟨rfl, rfl, rfl, rfl, id, fun _ => id⟩
  exact ⟨_, rfl, .of_quiet (cost := 18) ⟨by simp, by simp, by simp, by simp, h.memoryWf, h.memoryInside⟩ rfl
    ⟨by simp, by simp, by simp, by simp⟩ ⟨by simp, by simp, by simp, by simp⟩ (by decide) (by decide)⟩

theorem aluA_routine (s : State) (op : AluOp) (v : Byte) (len cost : Nat) (h4 : 4 ≤ cost) (h23 : cost ≤ 23) :
    Completes s (aluA s op v len cost) :=
  flagged_routine s .a _ _ len cost h4 h23

theorem incRegister_routine (s : State) (r : Reg8) (len cost : Nat) (h4 : 4 ≤ cost) (h23 : cost ≤ 23) :
    Completes s (incRegister s r len cost) :=
  flagged_routine s r _ _ len cost h4 h23

theorem decRegister_routine (s : State) (r : Reg8) (len cost : Nat) (h4 : 4 ≤ cost) (h23 : cost ≤ 23) :
    Completes s (decRegister s r len cost) :=
  flagged_routine s r _ _ len cost h4 h23

theorem rotateReg_routine (s : State) (op : RotOp) (r : Reg8) (len cost : Nat) (h4 : 4 ≤ cost) (h23 : cost ≤ 23) :
    Completes s (rotateReg s op r len cost) :=
  flagged_routine s r _ _ len cost h4 h23

theorem rotateAcc_routine (s : State) (op : RotOp) (len cost : Nat) (h4 : 4 ≤ cost) (h23 : cost ≤ 23) :
    Completes s (rotateAcc s op len cost) :=
  flagged_routine s .a _ _ len cost h4 h23

theorem incMemory_routine (s : State) (a : Word) (len cost : Nat) (h4 : 4 ≤ cost) (h23 : cost ≤ 23) :
    Completes s (incMemory s a len cost) :=
  flaggedStore_routine s a _ _ len cost h4 h23

theorem decMemory_routine (s : State) (a : Word) (len cost : Nat) (h4 : 4 ≤ cost) (h23 : cost ≤ 23) :
    Completes s (decMemory s a len cost) :=
  flaggedStore_routine s a _ _ len cost h4 h23

theorem rotateMem_routine (s : State) (op : RotOp) (a : Word) (len cost : Nat) (h4 : 4 ≤ cost) (h23 : cost ≤ 23) :
    Completes s (rotateMem s op a len cost) :=
  flaggedStore_routine s a _ _ len cost h4 h23

theorem testBit_routine (s : State) (v : Byte) (b : Nat) (len cost : Nat) (h4 : 4 ≤ cost) (h23 : cost ≤ 23) :
    Completes s (testBit s v b len cost) :=
  flagsOnly_routine s _ len cost h4 h23

theorem addHl_routine (s : State) (b : Word) (len cost : Nat) (h4 : 4 ≤ cost) (h23 : cost ≤ 23) :
    Completes s (addHl s b len cost) :=
  flaggedHl_routine s _ _ len cost h4 h23

theorem adcHl_routine (s : State) (b : Word) (len cost : Nat) (h4 : 4 ≤ cost) (h23 : cost ≤ 23) :
    Completes s (adcHl s b len cost) :=
  flaggedHl_routine s _ _ len cost h4 h23

theorem sbcHl_routine (s : State) (b : Word) (len cost : Nat) (h4 : 4 ≤ cost) (h23 : cost ≤ 23) :
    Completes s (sbcHl s b len cost) :=
  flaggedHl_routine s _ _ len cost h4 h23

theorem loadFromI_routine (s : State) : Completes s (loadFromI s) :=
  flagged_routine s .a _ _ 2 9 (by decide) (by decide)

theorem negateA_routine (s : State) : Completes s (negateA s) :=
  flagged_routine s .a _ _ 2 8 (by decide) (by decide)

theorem decimalAdjust_routine (s : State) : Completes s (decimalAdjust s) :=
  flagged_routine s .a _ _ 1 4 (by decide) (by decide)

theorem complementA_routine (s : State) : Completes s (complementA s) :=
  flagged_routine s .a _ _ 1 4 (by decide) (by decide)

theorem setCarry_routine (s : State) : Completes s (setCarry s) :=
  flagsOnly_routine s _ 1 4 (by decide) (by decide)

theorem complementCarry_routine (s : State) : Completes s (complementCarry s) :=
  flagsOnly_routine s _ 1 4 (by decide) (by decide)

theorem haltCpu_routine (s : State) : Completes s (haltCpu s) :=
  control_routine s _ 4 rfl (by decide) (by decide)

theorem disableInterrupts_routine (s : State) : Completes s (disableInterrupts s) :=
  control_routine s _ 4 rfl (by decide) (by decide)

theorem storeToI_routine (s : State) : Completes s (storeToI s) :=
  control_routine s _ 9 rfl (by decide) (by decide)

theorem storeToR_routine (s : State) : Completes s (storeToR s) :=
  control_routine s _ 9 rfl (by decide) (by decide)

theorem exchangeAf_routine (s : State) : Completes s (exchangeAf s) :=
  control_routine s _ 4 rfl (by decide) (by decide)

theorem exchangeBanks_routine (s : State) : Completes s (exchangeBanks s) :=
  control_routine s _ 4 rfl (by decide) (by decide)

theorem exchangeDeHl_routine (s : State) : Completes s (exchangeDeHl s) :=
  control_routine s _ 4 rfl (by decide) (by decide)

theorem setMode_routine (s : State) (m : IntMode) : Completes s (setMode s m) :=
  control_routine s _ 8 rfl (by decide) (by decide)

theorem inputA_routine (s : State) (n : Byte) : CompletesOrBadPort s (inputA s n) true := by
  rcases inputA_spec s n with ⟨t, v, e, h1, h2, _, _, h3, h4⟩ | ⟨h1, h2, e⟩
  · exact .inl ⟨t, e, .of_port h3.keepsRom h2.eiDelay h4 h1.keepsRequests (by decide) (by decide)⟩
  · exact .inr ⟨h2, ⟨n, h1⟩, _, e⟩

theorem inputReg_routine (s : State) (r : Reg8) : CompletesOrBadPort s (inputReg s r) true := by
  rcases inputReg_spec s r with ⟨t, v, e, h1, h2, _, _, h3, h4⟩ | ⟨h1, h2, e⟩
  · exact .inl ⟨t, e, .of_port h3.keepsRom h2.eiDelay h4 h1.keepsRequests (by decide) (by decide)⟩
  · exact .inr ⟨h2, ⟨_, h1⟩, _, e⟩

theorem outputA_routine (s : State) (n : Byte) : CompletesOrBadPort s (outputA s n) false := by
  rcases outputA_spec s n with ⟨t, e, h1, h2, h3⟩ | ⟨h1, h1', h2, e⟩
  · exact .inl ⟨t, e, .of_port h3.keepsRom (by rw [h1]) h2 h3.keepsRequests (by decide) (by decide)⟩
  · exact .inr ⟨h2, ⟨n, h1, h1'⟩, _, e⟩

theorem outputReg_routine (s : State) (r : Reg8) : CompletesOrBadPort s (outputReg s r) false := by
  rcases outputReg_spec s r with ⟨t, e, h1, h2, h3⟩ | ⟨h1, h1', h2, e⟩
  · exact .inl ⟨t, e, .of_port h3.keepsRom (by rw [h1]) h2 h3.keepsRequests (by decide) (by decide)⟩
  · exact .inr ⟨h2, ⟨_, h1, h1'⟩, _, e⟩

/-- Either path of an iteration of block I/O. -/
theorem iterate_paths (s t : State) (repeats : Bool) (b : Byte)
    (h1 : repeats = true ∧ b ≠ 1 → s.onlyMain t 0 ∧ s.charged t 21)
    (h2 : repeats = false ∨ b = 1 → s.onlyMain t 2 ∧ s.charged t 16) :
    t.cpu.eiDelay = false ∧ ∃ cost, 4 ≤ cost ∧ cost ≤ 23 ∧ s.charged t cost := by
  by_cases h : repeats = true ∧ b ≠ 1
  · exact ⟨(h1 h).1.eiDelay, 21, by decide, by decide, (h1 h).2⟩
  · have h' : repeats = false ∨ b = 1 := by
      cases repeats
      · exact .inl rfl
      · exact .inr (by simpa using h)
    exact ⟨(h2 h').1.eiDelay, 16, by decide, by decide, (h2 h').2⟩

theorem blockIn_routine (s : State) (move : Word) (repeats : Bool) :
    CompletesOrBadPort s (blockIn s move repeats) true := by
  rcases blockIn_spec s move repeats with ⟨t, v, e, h1, h2, _, _, _, _, _, _, h5, h6⟩ | ⟨h1, h2, e⟩
  · obtain ⟨he, c, c4, c23, hc⟩ := iterate_paths s t repeats _ h5 h6
    exact .inl ⟨t, e, .of_port h2.keepsRom he hc h1.keepsRequests c4 c23⟩
  · exact .inr ⟨h2, ⟨_, h1⟩, _, e⟩

theorem blockOut_routine (s : State) (move : Word) (repeats : Bool) :
    CompletesOrBadPort s (blockOut s move repeats) false := by
  rcases blockOut_spec s move repeats with ⟨t, e, h1, _, _, _, _, _, _, h5, h6⟩ | ⟨h1, h1', h2, e⟩
  · obtain ⟨he, c, c4, c23, hc⟩ := iterate_paths s t repeats _ h5 h6
    exact .inl ⟨t, e, .of_port h1.keepsRom he hc h1.keepsRequests c4 c23⟩
  · exact .inr ⟨h2, ⟨_, h1, h1'⟩, _, e⟩

end Sys2Proof.Machine
end

