-- ==== Sys2Proof/Laws/Exec.lean ====
section
/-! SUPPORT. Every instruction completes, or its port has no handler under the strict policy; and what it leaves is routine.
`EI` and `PATCH` are apart: their own lemmas say what they do. -/

namespace Sys2Proof.Machine

/-- The ways an instruction of the table can end, but for `EI` and `PATCH`. -/
def EndsRoutinely (s : State) (o : Outcome) : Prop :=
  Completes s o ∨ s.cfg.portPolicy = .strict ∧
    ((∃ b, b ∉ s.cfg.portMapIn) ∨ ∃ b, b ≠ s.cfg.ioBytePort ∧ b ∉ s.cfg.portMapOut) ∧ ∃ r, o = .fault r

theorem input_routine {s : State} {o : Outcome} (h : CompletesOrBadPort s o true) : EndsRoutinely s o := by
  rcases h with h | ⟨h1, h2, h3⟩
  · exact .inl h
  · exact .inr ⟨h1, .inl h2, h3⟩

theorem output_routine {s : State} {o : Outcome} (h : CompletesOrBadPort s o false) : EndsRoutinely s o := by
  rcases h with h | ⟨h1, ⟨b, h2⟩, h3⟩
  · exact .inl h
  · exact .inr ⟨h1, .inr ⟨b, by simpa using h2⟩, h3⟩

theorem exec_routine (i : Instr) (s : State) (hp : i ≠ .patch) (he : i ≠ .ei) : EndsRoutinely s (exec i s) := by
  cases i
  case nop =>
    exact .inl (skip_routine s _ _ (by decide) (by decide))
  case ldBcNn | ldDeNn | ldHlNn | ldHlMemNn | ldSpNn | ldSpHl | ldBcMemNn | ldDeMemNn | ldHlMemNnEd | ldSpMemNn |
      ldSpIx | ldSpIy =>
    exact .inl (by apply loadPair_routine <;> decide)
  case ldMemBcA | ldMemDeA | ldMemNnA | ldMemHlN | ldMemHlB | ldMemHlC | ldMemHlD | ldMemHlE | ldMemHlH | ldMemHlL |
      ldMemHlA | ldMemIxdN | ldMemIxdB | ldMemIxdC | ldMemIxdD | ldMemIxdE | ldMemIxdH | ldMemIxdL | ldMemIxdA |
      ldMemIydN | ldMemIydB | ldMemIydC | ldMemIydD | ldMemIydE | ldMemIydH | ldMemIydL | ldMemIydA =>
    exact .inl (by apply storeByte_routine <;> decide)
  case incBc | decBc | incDe | decDe | incHl | decHl | incSp | decSp =>
    exact .inl (by apply countPair_routine <;> decide)
  case incB | incC | incD | incE | incH | incL | incA =>
    exact .inl (by apply incRegister_routine <;> decide)
  case decB | decC | decD | decE | decH | decL | decA =>
    exact .inl (by apply decRegister_routine <;> decide)
  case ldBN | ldAMemBc | ldCN | ldDN | ldAMemDe | ldEN | ldHN | ldLN | ldAMemNn | ldAN | ldBB | ldBC | ldBD | ldBE |
      ldBH | ldBL | ldBMemHl | ldBA | ldCB | ldCC | ldCD | ldCE | ldCH | ldCL | ldCMemHl | ldCA | ldDB | ldDC | ldDD |
      ldDE | ldDH | ldDL | ldDMemHl | ldDA | ldEB | ldEC | ldED | ldEE | ldEH | ldEL | ldEMemHl | ldEA | ldHB | ldHC |
      ldHD | ldHE | ldHH | ldHL | ldHMemHl | ldHA | ldLB | ldLC | ldLD | ldLE | ldLH | ldLL | ldLMemHl | ldLA | ldAB |
      ldAC | ldAD | ldAE | ldAH | ldAL | ldAMemHl | ldAA | ldBMemIxd | ldCMemIxd | ldDMemIxd | ldEMemIxd | ldHMemIxd |
      ldLMemIxd | ldAMemIxd | ldBMemIyd | ldCMemIyd | ldDMemIyd | ldEMemIyd | ldHMemIyd | ldLMemIyd | ldAMemIyd =>
    exact .inl (by apply loadReg_routine <;> decide)
  case rlca | rrca | rla | rra =>
    exact .inl (by apply rotateAcc_routine <;> decide)
  case exAfAfAlt =>
    exact .inl (exchangeAf_routine ..)
  case addHlBc | addHlDe | addHlHl | addHlSp =>
    exact .inl (by apply addHl_routine <;> decide)
  case djnzE =>
    exact .inl (decrementJump_routine ..)
  case jrE | jpNn | jpHl | jpIx | jpIy =>
    exact .inl (by apply jump_routine <;> decide)
  case jrNzE | jrZE | jrNcE | jrCE | jpNzNn | jpZNn | jpNcNn | jpCNn | jpPoNn | jpPeNn | jpPNn | jpMNn =>
    exact .inl (by apply jumpIf_routine <;> decide)
  case ldMemNnHl | ldMemNnBc | ldMemNnDe | ldMemNnHlEd | ldMemNnSp | ldMemNnIx | ldMemNnIy =>
    exact .inl (by apply storeWord_routine <;> decide)
  case daa =>
    exact .inl (decimalAdjust_routine ..)
  case cpl =>
    exact .inl (complementA_routine ..)
  case incMemHl | incMemIxd | incMemIyd =>
    exact .inl (by apply incMemory_routine <;> decide)
  case decMemHl | decMemIxd | decMemIyd =>
    exact .inl (by apply decMemory_routine <;> decide)
  case scf =>
    exact .inl (setCarry_routine ..)
  case ccf =>
    exact .inl (complementCarry_routine ..)
  case halt =>
    exact .inl (haltCpu_routine ..)
  case addAB | addAC | addAD | addAE | addAH | addAL | addAMemHl | addAA | adcAB | adcAC | adcAD | adcAE | adcAH |
      adcAL | adcAMemHl | adcAA | subB | subC | subD | subE | subH | subL | subMemHl | subA | sbcAB | sbcAC | sbcAD |
      sbcAE | sbcAH | sbcAL | sbcAMemHl | sbcAA | andB | andC | andD | andE | andH | andL | andMemHl | andA | xorB |
      xorC | xorD | xorE | xorH | xorL | xorMemHl | xorA | orB | orC | orD | orE | orH | orL | orMemHl | orA | cpB |
      cpC | cpD | cpE | cpH | cpL | cpMemHl | cpA | addAN | adcAN | subN | sbcAN | andN | xorN | orN | cpN |
      addAMemIxd | adcAMemIxd | subMemIxd | sbcAMemIxd | andMemIxd | xorMemIxd | orMemIxd | cpMemIxd | addAMemIyd |
      adcAMemIyd | subMemIyd | sbcAMemIyd | andMemIyd | xorMemIyd | orMemIyd | cpMemIyd =>
    exact .inl (by apply aluA_routine <;> decide)
  case retNz | retZ | retNc | retC | retPo | retPe | retP | retM =>
    exact .inl (by apply retIf_routine <;> decide)
  case popBc | popDe | popHl | popAf =>
    exact .inl (by apply popToPair_routine <;> decide)
  case callNzNn | callZNn | callNcNn | callCNn | callPoNn | callPeNn | callPNn | callMNn =>
    exact .inl (by apply callIf_routine <;> decide)
  case pushBc | pushDe | pushHl | pushAf | pushIx | pushIy =>
    exact .inl (by apply pushWord_routine <;> decide)
  case rst00 | callNn | rst08 | rst10 | rst18 | rst20 | rst28 | rst30 | rst38 =>
    exact .inl (by apply call_routine <;> decide)
  case ret =>
    exact .inl (by apply ret_routine <;> decide)
  case outPortNA =>
    exact output_routine (outputA_routine ..)
  case exx =>
    exact .inl (exchangeBanks_routine ..)
  case inAPortN =>
    exact input_routine (inputA_routine ..)
  case exDeHl =>
    exact .inl (exchangeDeHl_routine ..)
  case di =>
    exact .inl (disableInterrupts_routine ..)
  case ei =>
    exact absurd rfl he
  case rlcB | rlcC | rlcD | rlcE | rlcH | rlcL | rlcA | rrcB | rrcC | rrcD | rrcE | rrcH | rrcL | rrcA | rlB | rlC |
      rlD | rlE | rlH | rlL | rlA | rrB | rrC | rrD | rrE | rrH | rrL | rrA | slaB | slaC | slaD | slaE | slaH | slaL |
      slaA | sraB | sraC | sraD | sraE | sraH | sraL | sraA | srlB | srlC | srlD | srlE | srlH | srlL | srlA =>
    exact .inl (by apply rotateReg_routine <;> decide)
  case rlcMemHl | rrcMemHl | rlMemHl | rrMemHl | slaMemHl | sraMemHl | srlMemHl | rlcMemIxd | rrcMemIxd | rlMemIxd |
      rrMemIxd | slaMemIxd | sraMemIxd | srlMemIxd | rlcMemIyd | rrcMemIyd | rlMemIyd | rrMemIyd | slaMemIyd |
      sraMemIyd | srlMemIyd =>
    exact .inl (by apply rotateMem_routine <;> decide)
  case bit0B | bit0C | bit0D | bit0E | bit0H | bit0L | bit0MemHl | bit0A | bit1B | bit1C | bit1D | bit1E | bit1H |
      bit1L | bit1MemHl | bit1A | bit2B | bit2C | bit2D | bit2E | bit2H | bit2L | bit2MemHl | bit2A | bit3B | bit3C |
      bit3D | bit3E | bit3H | bit3L | bit3MemHl | bit3A | bit4B | bit4C | bit4D | bit4E | bit4H | bit4L | bit4MemHl |
      bit4A | bit5B | bit5C | bit5D | bit5E | bit5H | bit5L | bit5MemHl | bit5A | bit6B | bit6C | bit6D | bit6E |
      bit6H | bit6L | bit6MemHl | bit6A | bit7B | bit7C | bit7D | bit7E | bit7H | bit7L | bit7MemHl | bit7A |
      bit0MemIxd | bit1MemIxd | bit2MemIxd | bit3MemIxd | bit4MemIxd | bit5MemIxd | bit6MemIxd | bit7MemIxd |
      bit0MemIyd | bit1MemIyd | bit2MemIyd | bit3MemIyd | bit4MemIyd | bit5MemIyd | bit6MemIyd | bit7MemIyd =>
    exact .inl (by apply testBit_routine <;> decide)
  case res0B | res0C | res0D | res0E | res0H | res0L | res0A | res1B | res1C | res1D | res1E | res1H | res1L | res1A |
      res2B | res2C | res2D | res2E | res2H | res2L | res2A | res3B | res3C | res3D | res3E | res3H | res3L | res3A |
      res4B | res4C | res4D | res4E | res4H | res4L | res4A | res5B | res5C | res5D | res5E | res5H | res5L | res5A |
      res6B | res6C | res6D | res6E | res6H | res6L | res6A | res7B | res7C | res7D | res7E | res7H | res7L | res7A |
      set0B | set0C | set0D | set0E | set0H | set0L | set0A | set1B | set1C | set1D | set1E | set1H | set1L | set1A |
      set2B | set2C | set2D | set2E | set2H | set2L | set2A | set3B | set3C | set3D | set3E | set3H | set3L | set3A |
      set4B | set4C | set4D | set4E | set4H | set4L | set4A | set5B | set5C | set5D | set5E | set5H | set5L | set5A |
      set6B | set6C | set6D | set6E | set6H | set6L | set6A | set7B | set7C | set7D | set7E | set7H | set7L | set7A =>
    exact .inl (by apply changeReg_routine <;> decide)
  case res0MemHl | res1MemHl | res2MemHl | res3MemHl | res4MemHl | res5MemHl | res6MemHl | res7MemHl | set0MemHl |
      set1MemHl | set2MemHl | set3MemHl | set4MemHl | set5MemHl | set6MemHl | set7MemHl | res0MemIxd | res1MemIxd |
      res2MemIxd | res3MemIxd | res4MemIxd | res5MemIxd | res6MemIxd | res7MemIxd | set0MemIxd | set1MemIxd |
      set2MemIxd | set3MemIxd | set4MemIxd | set5MemIxd | set6MemIxd | set7MemIxd | res0MemIyd | res1MemIyd |
      res2MemIyd | res3MemIyd | res4MemIyd | res5MemIyd | res6MemIyd | res7MemIyd | set0MemIyd | set1MemIyd |
      set2MemIyd | set3MemIyd | set4MemIyd | set5MemIyd | set6MemIyd | set7MemIyd =>
    exact .inl (by apply changeMem_routine <;> decide)
  case inBPortC | inCPortC | inDPortC | inEPortC | inHPortC | inLPortC | inAPortC =>
    exact input_routine (inputReg_routine ..)
  case outPortCB | outPortCC | outPortCD | outPortCE | outPortCH | outPortCL | outPortCA =>
    exact output_routine (outputReg_routine ..)
  case sbcHlBc | sbcHlDe | sbcHlHl | sbcHlSp =>
    exact .inl (by apply sbcHl_routine <;> decide)
  case neg =>
    exact .inl (negateA_routine ..)
  case retn =>
    exact .inl (returnNonMaskable_routine ..)
  case im0 | im1 | im2 =>
    exact .inl (setMode_routine ..)
  case ldIA =>
    exact .inl (storeToI_routine ..)
  case adcHlBc | adcHlDe | adcHlHl | adcHlSp =>
    exact .inl (by apply adcHl_routine <;> decide)
  case reti =>
    exact .inl (returnMaskable_routine ..)
  case ldRA =>
    exact .inl (storeToR_routine ..)
  case ldAI =>
    exact .inl (loadFromI_routine ..)
  case ldAR =>
    exact .inl (loadFromR_routine ..)
  case rrd | rld =>
    exact .inl (digitRotate_routine ..)
  case ldi | ldd | ldir | lddr =>
    exact .inl (by first | exact blockMove_routine s _ false | exact blockMove_routine s _ true)
  case cpi | cpd | cpir | cpdr =>
    exact .inl (by first | exact blockSearch_routine s _ false | exact blockSearch_routine s _ true)
  case ini | ind | inir | indr =>
    exact input_routine (blockIn_routine ..)
  case outi | outd | otir | otdr =>
    exact output_routine (blockOut_routine ..)
  case patch =>
    exact absurd rfl hp
  case addIxBc | addIxDe | addIxIx | addIxSp | addIyBc | addIyDe | addIyIy | addIySp =>
    exact .inl (by apply addIndex_routine <;> decide)
  case ldIxNn | ldIxMemNn | ldIyNn | ldIyMemNn =>
    exact .inl (by apply loadIndex_routine <;> decide)
  case incIx | decIx | incIy | decIy =>
    exact .inl (by apply countIndex_routine <;> decide)
  case popIx | popIy =>
    exact .inl (by apply popToIndex_routine <;> decide)
  case exMemSpHl =>
    exact .inl (exchangeStack_routine s _ 1 19 s.hl (by decide) (by decide) rfl)
  case exMemSpIx =>
    exact .inl (exchangeStack_routine s _ 2 23 (s.index .ix) (by decide) (by decide) rfl)
  case exMemSpIy =>
    exact .inl (exchangeStack_routine s _ 2 23 (s.index .iy) (by decide) (by decide) rfl)

end Sys2Proof.Machine
end

