-- ==== Sys2Proof/Laws/PerInstr.lean ====
section
/-! SUPPORT. Statements made per instruction: the length of an encoding (R150). -/

namespace Sys2Proof.Laws.EncodedLength

/-- An instruction is 1 to 4 bytes, and its first byte tells the page: one byte only when it is no prefix (R150, R164). -/
def Statement (i : Instr) : Prop :=
  1 ≤ (encode i).length ∧ (encode i).length ≤ 4 ∧
    ((encode i).length = 1 → ∀ b ∈ encode i, b ≠ 0xCB ∧ b ≠ 0xDD ∧ b ≠ 0xED ∧ b ≠ 0xFD)

/-- An encoding of one byte that is no prefix. -/
theorem of_one (b : Byte) (h : b ≠ 0xCB ∧ b ≠ 0xDD ∧ b ≠ 0xED ∧ b ≠ 0xFD) :
    1 ≤ [b].length ∧ [b].length ≤ 4 ∧
      ([b].length = 1 → ∀ c ∈ [b], c ≠ 0xCB ∧ c ≠ 0xDD ∧ c ≠ 0xED ∧ c ≠ 0xFD) := by
  simpa using h

/-- An encoding of two to four bytes. -/
theorem of_many (l : List Byte) (h : l.length = 2 ∨ l.length = 3 ∨ l.length = 4) :
    1 ≤ l.length ∧ l.length ≤ 4 ∧
      (l.length = 1 → ∀ c ∈ l, c ≠ 0xCB ∧ c ≠ 0xDD ∧ c ≠ 0xED ∧ c ≠ 0xFD) := by
  omega

theorem nop : Statement (.nop) := of_one _ (by decide)
theorem ldBcNn (nn : Word) : Statement (.ldBcNn nn) := of_many _ (.inr (.inl rfl))
theorem ldMemBcA : Statement (.ldMemBcA) := of_one _ (by decide)
theorem incBc : Statement (.incBc) := of_one _ (by decide)
theorem incB : Statement (.incB) := of_one _ (by decide)
theorem decB : Statement (.decB) := of_one _ (by decide)
theorem ldBN (n : Byte) : Statement (.ldBN n) := of_many _ (.inl rfl)
theorem rlca : Statement (.rlca) := of_one _ (by decide)
theorem exAfAfAlt : Statement (.exAfAfAlt) := of_one _ (by decide)
theorem addHlBc : Statement (.addHlBc) := of_one _ (by decide)
theorem ldAMemBc : Statement (.ldAMemBc) := of_one _ (by decide)
theorem decBc : Statement (.decBc) := of_one _ (by decide)
theorem incC : Statement (.incC) := of_one _ (by decide)
theorem decC : Statement (.decC) := of_one _ (by decide)
theorem ldCN (n : Byte) : Statement (.ldCN n) := of_many _ (.inl rfl)
theorem rrca : Statement (.rrca) := of_one _ (by decide)
theorem djnzE (e : Byte) : Statement (.djnzE e) := of_many _ (.inl rfl)
theorem ldDeNn (nn : Word) : Statement (.ldDeNn nn) := of_many _ (.inr (.inl rfl))
theorem ldMemDeA : Statement (.ldMemDeA) := of_one _ (by decide)
theorem incDe : Statement (.incDe) := of_one _ (by decide)
theorem incD : Statement (.incD) := of_one _ (by decide)
theorem decD : Statement (.decD) := of_one _ (by decide)
theorem ldDN (n : Byte) : Statement (.ldDN n) := of_many _ (.inl rfl)
theorem rla : Statement (.rla) := of_one _ (by decide)
theorem jrE (e : Byte) : Statement (.jrE e) := of_many _ (.inl rfl)
theorem addHlDe : Statement (.addHlDe) := of_one _ (by decide)
theorem ldAMemDe : Statement (.ldAMemDe) := of_one _ (by decide)
theorem decDe : Statement (.decDe) := of_one _ (by decide)
theorem incE : Statement (.incE) := of_one _ (by decide)
theorem decE : Statement (.decE) := of_one _ (by decide)
theorem ldEN (n : Byte) : Statement (.ldEN n) := of_many _ (.inl rfl)
theorem rra : Statement (.rra) := of_one _ (by decide)
theorem jrNzE (e : Byte) : Statement (.jrNzE e) := of_many _ (.inl rfl)
theorem ldHlNn (nn : Word) : Statement (.ldHlNn nn) := of_many _ (.inr (.inl rfl))
theorem ldMemNnHl (nn : Word) : Statement (.ldMemNnHl nn) := of_many _ (.inr (.inl rfl))
theorem incHl : Statement (.incHl) := of_one _ (by decide)
theorem incH : Statement (.incH) := of_one _ (by decide)
theorem decH : Statement (.decH) := of_one _ (by decide)
theorem ldHN (n : Byte) : Statement (.ldHN n) := of_many _ (.inl rfl)
theorem daa : Statement (.daa) := of_one _ (by decide)
theorem jrZE (e : Byte) : Statement (.jrZE e) := of_many _ (.inl rfl)
theorem addHlHl : Statement (.addHlHl) := of_one _ (by decide)
theorem ldHlMemNn (nn : Word) : Statement (.ldHlMemNn nn) := of_many _ (.inr (.inl rfl))
theorem decHl : Statement (.decHl) := of_one _ (by decide)
theorem incL : Statement (.incL) := of_one _ (by decide)
theorem decL : Statement (.decL) := of_one _ (by decide)
theorem ldLN (n : Byte) : Statement (.ldLN n) := of_many _ (.inl rfl)
theorem cpl : Statement (.cpl) := of_one _ (by decide)
theorem jrNcE (e : Byte) : Statement (.jrNcE e) := of_many _ (.inl rfl)
theorem ldSpNn (nn : Word) : Statement (.ldSpNn nn) := of_many _ (.inr (.inl rfl))
theorem ldMemNnA (nn : Word) : Statement (.ldMemNnA nn) := of_many _ (.inr (.inl rfl))
theorem incSp : Statement (.incSp) := of_one _ (by decide)
theorem incMemHl : Statement (.incMemHl) := of_one _ (by decide)
theorem decMemHl : Statement (.decMemHl) := of_one _ (by decide)
theorem ldMemHlN (n : Byte) : Statement (.ldMemHlN n) := of_many _ (.inl rfl)
theorem scf : Statement (.scf) := of_one _ (by decide)
theorem jrCE (e : Byte) : Statement (.jrCE e) := of_many _ (.inl rfl)
theorem addHlSp : Statement (.addHlSp) := of_one _ (by decide)
theorem ldAMemNn (nn : Word) : Statement (.ldAMemNn nn) := of_many _ (.inr (.inl rfl))
theorem decSp : Statement (.decSp) := of_one _ (by decide)
theorem incA : Statement (.incA) := of_one _ (by decide)
theorem decA : Statement (.decA) := of_one _ (by decide)
theorem ldAN (n : Byte) : Statement (.ldAN n) := of_many _ (.inl rfl)
theorem ccf : Statement (.ccf) := of_one _ (by decide)
theorem ldBB : Statement (.ldBB) := of_one _ (by decide)
theorem ldBC : Statement (.ldBC) := of_one _ (by decide)
theorem ldBD : Statement (.ldBD) := of_one _ (by decide)
theorem ldBE : Statement (.ldBE) := of_one _ (by decide)
theorem ldBH : Statement (.ldBH) := of_one _ (by decide)
theorem ldBL : Statement (.ldBL) := of_one _ (by decide)
theorem ldBMemHl : Statement (.ldBMemHl) := of_one _ (by decide)
theorem ldBA : Statement (.ldBA) := of_one _ (by decide)
theorem ldCB : Statement (.ldCB) := of_one _ (by decide)
theorem ldCC : Statement (.ldCC) := of_one _ (by decide)
theorem ldCD : Statement (.ldCD) := of_one _ (by decide)
theorem ldCE : Statement (.ldCE) := of_one _ (by decide)
theorem ldCH : Statement (.ldCH) := of_one _ (by decide)
theorem ldCL : Statement (.ldCL) := of_one _ (by decide)
theorem ldCMemHl : Statement (.ldCMemHl) := of_one _ (by decide)
theorem ldCA : Statement (.ldCA) := of_one _ (by decide)
theorem ldDB : Statement (.ldDB) := of_one _ (by decide)
theorem ldDC : Statement (.ldDC) := of_one _ (by decide)
theorem ldDD : Statement (.ldDD) := of_one _ (by decide)
theorem ldDE : Statement (.ldDE) := of_one _ (by decide)
theorem ldDH : Statement (.ldDH) := of_one _ (by decide)
theorem ldDL : Statement (.ldDL) := of_one _ (by decide)
theorem ldDMemHl : Statement (.ldDMemHl) := of_one _ (by decide)
theorem ldDA : Statement (.ldDA) := of_one _ (by decide)
theorem ldEB : Statement (.ldEB) := of_one _ (by decide)
theorem ldEC : Statement (.ldEC) := of_one _ (by decide)
theorem ldED : Statement (.ldED) := of_one _ (by decide)
theorem ldEE : Statement (.ldEE) := of_one _ (by decide)
theorem ldEH : Statement (.ldEH) := of_one _ (by decide)
theorem ldEL : Statement (.ldEL) := of_one _ (by decide)
theorem ldEMemHl : Statement (.ldEMemHl) := of_one _ (by decide)
theorem ldEA : Statement (.ldEA) := of_one _ (by decide)
theorem ldHB : Statement (.ldHB) := of_one _ (by decide)
theorem ldHC : Statement (.ldHC) := of_one _ (by decide)
theorem ldHD : Statement (.ldHD) := of_one _ (by decide)
theorem ldHE : Statement (.ldHE) := of_one _ (by decide)
theorem ldHH : Statement (.ldHH) := of_one _ (by decide)
theorem ldHL : Statement (.ldHL) := of_one _ (by decide)
theorem ldHMemHl : Statement (.ldHMemHl) := of_one _ (by decide)
theorem ldHA : Statement (.ldHA) := of_one _ (by decide)
theorem ldLB : Statement (.ldLB) := of_one _ (by decide)
theorem ldLC : Statement (.ldLC) := of_one _ (by decide)
theorem ldLD : Statement (.ldLD) := of_one _ (by decide)
theorem ldLE : Statement (.ldLE) := of_one _ (by decide)
theorem ldLH : Statement (.ldLH) := of_one _ (by decide)
theorem ldLL : Statement (.ldLL) := of_one _ (by decide)
theorem ldLMemHl : Statement (.ldLMemHl) := of_one _ (by decide)
theorem ldLA : Statement (.ldLA) := of_one _ (by decide)
theorem ldMemHlB : Statement (.ldMemHlB) := of_one _ (by decide)
theorem ldMemHlC : Statement (.ldMemHlC) := of_one _ (by decide)
theorem ldMemHlD : Statement (.ldMemHlD) := of_one _ (by decide)
theorem ldMemHlE : Statement (.ldMemHlE) := of_one _ (by decide)
theorem ldMemHlH : Statement (.ldMemHlH) := of_one _ (by decide)
theorem ldMemHlL : Statement (.ldMemHlL) := of_one _ (by decide)
theorem halt : Statement (.halt) := of_one _ (by decide)
theorem ldMemHlA : Statement (.ldMemHlA) := of_one _ (by decide)
theorem ldAB : Statement (.ldAB) := of_one _ (by decide)
theorem ldAC : Statement (.ldAC) := of_one _ (by decide)
theorem ldAD : Statement (.ldAD) := of_one _ (by decide)
theorem ldAE : Statement (.ldAE) := of_one _ (by decide)
theorem ldAH : Statement (.ldAH) := of_one _ (by decide)
theorem ldAL : Statement (.ldAL) := of_one _ (by decide)
theorem ldAMemHl : Statement (.ldAMemHl) := of_one _ (by decide)
theorem ldAA : Statement (.ldAA) := of_one _ (by decide)
theorem addAB : Statement (.addAB) := of_one _ (by decide)
theorem addAC : Statement (.addAC) := of_one _ (by decide)
theorem addAD : Statement (.addAD) := of_one _ (by decide)
theorem addAE : Statement (.addAE) := of_one _ (by decide)
theorem addAH : Statement (.addAH) := of_one _ (by decide)
theorem addAL : Statement (.addAL) := of_one _ (by decide)
theorem addAMemHl : Statement (.addAMemHl) := of_one _ (by decide)
theorem addAA : Statement (.addAA) := of_one _ (by decide)
theorem adcAB : Statement (.adcAB) := of_one _ (by decide)
theorem adcAC : Statement (.adcAC) := of_one _ (by decide)
theorem adcAD : Statement (.adcAD) := of_one _ (by decide)
theorem adcAE : Statement (.adcAE) := of_one _ (by decide)
theorem adcAH : Statement (.adcAH) := of_one _ (by decide)
theorem adcAL : Statement (.adcAL) := of_one _ (by decide)
theorem adcAMemHl : Statement (.adcAMemHl) := of_one _ (by decide)
theorem adcAA : Statement (.adcAA) := of_one _ (by decide)
theorem subB : Statement (.subB) := of_one _ (by decide)
theorem subC : Statement (.subC) := of_one _ (by decide)
theorem subD : Statement (.subD) := of_one _ (by decide)
theorem subE : Statement (.subE) := of_one _ (by decide)
theorem subH : Statement (.subH) := of_one _ (by decide)
theorem subL : Statement (.subL) := of_one _ (by decide)
theorem subMemHl : Statement (.subMemHl) := of_one _ (by decide)
theorem subA : Statement (.subA) := of_one _ (by decide)
theorem sbcAB : Statement (.sbcAB) := of_one _ (by decide)
theorem sbcAC : Statement (.sbcAC) := of_one _ (by decide)
theorem sbcAD : Statement (.sbcAD) := of_one _ (by decide)
theorem sbcAE : Statement (.sbcAE) := of_one _ (by decide)
theorem sbcAH : Statement (.sbcAH) := of_one _ (by decide)
theorem sbcAL : Statement (.sbcAL) := of_one _ (by decide)
theorem sbcAMemHl : Statement (.sbcAMemHl) := of_one _ (by decide)
theorem sbcAA : Statement (.sbcAA) := of_one _ (by decide)
theorem andB : Statement (.andB) := of_one _ (by decide)
theorem andC : Statement (.andC) := of_one _ (by decide)
theorem andD : Statement (.andD) := of_one _ (by decide)
theorem andE : Statement (.andE) := of_one _ (by decide)
theorem andH : Statement (.andH) := of_one _ (by decide)
theorem andL : Statement (.andL) := of_one _ (by decide)
theorem andMemHl : Statement (.andMemHl) := of_one _ (by decide)
theorem andA : Statement (.andA) := of_one _ (by decide)
theorem xorB : Statement (.xorB) := of_one _ (by decide)
theorem xorC : Statement (.xorC) := of_one _ (by decide)
theorem xorD : Statement (.xorD) := of_one _ (by decide)
theorem xorE : Statement (.xorE) := of_one _ (by decide)
theorem xorH : Statement (.xorH) := of_one _ (by decide)
theorem xorL : Statement (.xorL) := of_one _ (by decide)
theorem xorMemHl : Statement (.xorMemHl) := of_one _ (by decide)
theorem xorA : Statement (.xorA) := of_one _ (by decide)
theorem orB : Statement (.orB) := of_one _ (by decide)
theorem orC : Statement (.orC) := of_one _ (by decide)
theorem orD : Statement (.orD) := of_one _ (by decide)
theorem orE : Statement (.orE) := of_one _ (by decide)
theorem orH : Statement (.orH) := of_one _ (by decide)
theorem orL : Statement (.orL) := of_one _ (by decide)
theorem orMemHl : Statement (.orMemHl) := of_one _ (by decide)
theorem orA : Statement (.orA) := of_one _ (by decide)
theorem cpB : Statement (.cpB) := of_one _ (by decide)
theorem cpC : Statement (.cpC) := of_one _ (by decide)
theorem cpD : Statement (.cpD) := of_one _ (by decide)
theorem cpE : Statement (.cpE) := of_one _ (by decide)
theorem cpH : Statement (.cpH) := of_one _ (by decide)
theorem cpL : Statement (.cpL) := of_one _ (by decide)
theorem cpMemHl : Statement (.cpMemHl) := of_one _ (by decide)
theorem cpA : Statement (.cpA) := of_one _ (by decide)
theorem retNz : Statement (.retNz) := of_one _ (by decide)
theorem popBc : Statement (.popBc) := of_one _ (by decide)
theorem jpNzNn (nn : Word) : Statement (.jpNzNn nn) := of_many _ (.inr (.inl rfl))
theorem jpNn (nn : Word) : Statement (.jpNn nn) := of_many _ (.inr (.inl rfl))
theorem callNzNn (nn : Word) : Statement (.callNzNn nn) := of_many _ (.inr (.inl rfl))
theorem pushBc : Statement (.pushBc) := of_one _ (by decide)
theorem addAN (n : Byte) : Statement (.addAN n) := of_many _ (.inl rfl)
theorem rst00 : Statement (.rst00) := of_one _ (by decide)
theorem retZ : Statement (.retZ) := of_one _ (by decide)
theorem ret : Statement (.ret) := of_one _ (by decide)
theorem jpZNn (nn : Word) : Statement (.jpZNn nn) := of_many _ (.inr (.inl rfl))
theorem callZNn (nn : Word) : Statement (.callZNn nn) := of_many _ (.inr (.inl rfl))
theorem callNn (nn : Word) : Statement (.callNn nn) := of_many _ (.inr (.inl rfl))
theorem adcAN (n : Byte) : Statement (.adcAN n) := of_many _ (.inl rfl)
theorem rst08 : Statement (.rst08) := of_one _ (by decide)
theorem retNc : Statement (.retNc) := of_one _ (by decide)
theorem popDe : Statement (.popDe) := of_one _ (by decide)
theorem jpNcNn (nn : Word) : Statement (.jpNcNn nn) := of_many _ (.inr (.inl rfl))
theorem outPortNA (n : Byte) : Statement (.outPortNA n) := of_many _ (.inl rfl)
theorem callNcNn (nn : Word) : Statement (.callNcNn nn) := of_many _ (.inr (.inl rfl))
theorem pushDe : Statement (.pushDe) := of_one _ (by decide)
theorem subN (n : Byte) : Statement (.subN n) := of_many _ (.inl rfl)
theorem rst10 : Statement (.rst10) := of_one _ (by decide)
theorem retC : Statement (.retC) := of_one _ (by decide)
theorem exx : Statement (.exx) := of_one _ (by decide)
theorem jpCNn (nn : Word) : Statement (.jpCNn nn) := of_many _ (.inr (.inl rfl))
theorem inAPortN (n : Byte) : Statement (.inAPortN n) := of_many _ (.inl rfl)
theorem callCNn (nn : Word) : Statement (.callCNn nn) := of_many _ (.inr (.inl rfl))
theorem sbcAN (n : Byte) : Statement (.sbcAN n) := of_many _ (.inl rfl)
theorem rst18 : Statement (.rst18) := of_one _ (by decide)
theorem retPo : Statement (.retPo) := of_one _ (by decide)
theorem popHl : Statement (.popHl) := of_one _ (by decide)
theorem jpPoNn (nn : Word) : Statement (.jpPoNn nn) := of_many _ (.inr (.inl rfl))
theorem exMemSpHl : Statement (.exMemSpHl) := of_one _ (by decide)
theorem callPoNn (nn : Word) : Statement (.callPoNn nn) := of_many _ (.inr (.inl rfl))
theorem pushHl : Statement (.pushHl) := of_one _ (by decide)
theorem andN (n : Byte) : Statement (.andN n) := of_many _ (.inl rfl)
theorem rst20 : Statement (.rst20) := of_one _ (by decide)
theorem retPe : Statement (.retPe) := of_one _ (by decide)
theorem jpHl : Statement (.jpHl) := of_one _ (by decide)
theorem jpPeNn (nn : Word) : Statement (.jpPeNn nn) := of_many _ (.inr (.inl rfl))
theorem exDeHl : Statement (.exDeHl) := of_one _ (by decide)
theorem callPeNn (nn : Word) : Statement (.callPeNn nn) := of_many _ (.inr (.inl rfl))
theorem xorN (n : Byte) : Statement (.xorN n) := of_many _ (.inl rfl)
theorem rst28 : Statement (.rst28) := of_one _ (by decide)
theorem retP : Statement (.retP) := of_one _ (by decide)
theorem popAf : Statement (.popAf) := of_one _ (by decide)
theorem jpPNn (nn : Word) : Statement (.jpPNn nn) := of_many _ (.inr (.inl rfl))
theorem di : Statement (.di) := of_one _ (by decide)
theorem callPNn (nn : Word) : Statement (.callPNn nn) := of_many _ (.inr (.inl rfl))
theorem pushAf : Statement (.pushAf) := of_one _ (by decide)
theorem orN (n : Byte) : Statement (.orN n) := of_many _ (.inl rfl)
theorem rst30 : Statement (.rst30) := of_one _ (by decide)
theorem retM : Statement (.retM) := of_one _ (by decide)
theorem ldSpHl : Statement (.ldSpHl) := of_one _ (by decide)
theorem jpMNn (nn : Word) : Statement (.jpMNn nn) := of_many _ (.inr (.inl rfl))
theorem ei : Statement (.ei) := of_one _ (by decide)
theorem callMNn (nn : Word) : Statement (.callMNn nn) := of_many _ (.inr (.inl rfl))
theorem cpN (n : Byte) : Statement (.cpN n) := of_many _ (.inl rfl)
theorem rst38 : Statement (.rst38) := of_one _ (by decide)
theorem rlcB : Statement (.rlcB) := of_many _ (.inl rfl)
theorem rlcC : Statement (.rlcC) := of_many _ (.inl rfl)
theorem rlcD : Statement (.rlcD) := of_many _ (.inl rfl)
theorem rlcE : Statement (.rlcE) := of_many _ (.inl rfl)
theorem rlcH : Statement (.rlcH) := of_many _ (.inl rfl)
theorem rlcL : Statement (.rlcL) := of_many _ (.inl rfl)
theorem rlcMemHl : Statement (.rlcMemHl) := of_many _ (.inl rfl)
theorem rlcA : Statement (.rlcA) := of_many _ (.inl rfl)
theorem rrcB : Statement (.rrcB) := of_many _ (.inl rfl)
theorem rrcC : Statement (.rrcC) := of_many _ (.inl rfl)
theorem rrcD : Statement (.rrcD) := of_many _ (.inl rfl)
theorem rrcE : Statement (.rrcE) := of_many _ (.inl rfl)
theorem rrcH : Statement (.rrcH) := of_many _ (.inl rfl)
theorem rrcL : Statement (.rrcL) := of_many _ (.inl rfl)
theorem rrcMemHl : Statement (.rrcMemHl) := of_many _ (.inl rfl)
theorem rrcA : Statement (.rrcA) := of_many _ (.inl rfl)
theorem rlB : Statement (.rlB) := of_many _ (.inl rfl)
theorem rlC : Statement (.rlC) := of_many _ (.inl rfl)
theorem rlD : Statement (.rlD) := of_many _ (.inl rfl)
theorem rlE : Statement (.rlE) := of_many _ (.inl rfl)
theorem rlH : Statement (.rlH) := of_many _ (.inl rfl)
theorem rlL : Statement (.rlL) := of_many _ (.inl rfl)
theorem rlMemHl : Statement (.rlMemHl) := of_many _ (.inl rfl)
theorem rlA : Statement (.rlA) := of_many _ (.inl rfl)
theorem rrB : Statement (.rrB) := of_many _ (.inl rfl)
theorem rrC : Statement (.rrC) := of_many _ (.inl rfl)
theorem rrD : Statement (.rrD) := of_many _ (.inl rfl)
theorem rrE : Statement (.rrE) := of_many _ (.inl rfl)
theorem rrH : Statement (.rrH) := of_many _ (.inl rfl)
theorem rrL : Statement (.rrL) := of_many _ (.inl rfl)
theorem rrMemHl : Statement (.rrMemHl) := of_many _ (.inl rfl)
theorem rrA : Statement (.rrA) := of_many _ (.inl rfl)
theorem slaB : Statement (.slaB) := of_many _ (.inl rfl)
theorem slaC : Statement (.slaC) := of_many _ (.inl rfl)
theorem slaD : Statement (.slaD) := of_many _ (.inl rfl)
theorem slaE : Statement (.slaE) := of_many _ (.inl rfl)
theorem slaH : Statement (.slaH) := of_many _ (.inl rfl)
theorem slaL : Statement (.slaL) := of_many _ (.inl rfl)
theorem slaMemHl : Statement (.slaMemHl) := of_many _ (.inl rfl)
theorem slaA : Statement (.slaA) := of_many _ (.inl rfl)
theorem sraB : Statement (.sraB) := of_many _ (.inl rfl)
theorem sraC : Statement (.sraC) := of_many _ (.inl rfl)
theorem sraD : Statement (.sraD) := of_many _ (.inl rfl)
theorem sraE : Statement (.sraE) := of_many _ (.inl rfl)
theorem sraH : Statement (.sraH) := of_many _ (.inl rfl)
theorem sraL : Statement (.sraL) := of_many _ (.inl rfl)
theorem sraMemHl : Statement (.sraMemHl) := of_many _ (.inl rfl)
theorem sraA : Statement (.sraA) := of_many _ (.inl rfl)
theorem srlB : Statement (.srlB) := of_many _ (.inl rfl)
theorem srlC : Statement (.srlC) := of_many _ (.inl rfl)
theorem srlD : Statement (.srlD) := of_many _ (.inl rfl)
theorem srlE : Statement (.srlE) := of_many _ (.inl rfl)
theorem srlH : Statement (.srlH) := of_many _ (.inl rfl)
theorem srlL : Statement (.srlL) := of_many _ (.inl rfl)
theorem srlMemHl : Statement (.srlMemHl) := of_many _ (.inl rfl)
theorem srlA : Statement (.srlA) := of_many _ (.inl rfl)
theorem bit0B : Statement (.bit0B) := of_many _ (.inl rfl)
theorem bit0C : Statement (.bit0C) := of_many _ (.inl rfl)
theorem bit0D : Statement (.bit0D) := of_many _ (.inl rfl)
theorem bit0E : Statement (.bit0E) := of_many _ (.inl rfl)
theorem bit0H : Statement (.bit0H) := of_many _ (.inl rfl)
theorem bit0L : Statement (.bit0L) := of_many _ (.inl rfl)
theorem bit0MemHl : Statement (.bit0MemHl) := of_many _ (.inl rfl)
theorem bit0A : Statement (.bit0A) := of_many _ (.inl rfl)
theorem bit1B : Statement (.bit1B) := of_many _ (.inl rfl)
theorem bit1C : Statement (.bit1C) := of_many _ (.inl rfl)
theorem bit1D : Statement (.bit1D) := of_many _ (.inl rfl)
theorem bit1E : Statement (.bit1E) := of_many _ (.inl rfl)
theorem bit1H : Statement (.bit1H) := of_many _ (.inl rfl)
theorem bit1L : Statement (.bit1L) := of_many _ (.inl rfl)
theorem bit1MemHl : Statement (.bit1MemHl) := of_many _ (.inl rfl)
theorem bit1A : Statement (.bit1A) := of_many _ (.inl rfl)
theorem bit2B : Statement (.bit2B) := of_many _ (.inl rfl)
theorem bit2C : Statement (.bit2C) := of_many _ (.inl rfl)
theorem bit2D : Statement (.bit2D) := of_many _ (.inl rfl)
theorem bit2E : Statement (.bit2E) := of_many _ (.inl rfl)
theorem bit2H : Statement (.bit2H) := of_many _ (.inl rfl)
theorem bit2L : Statement (.bit2L) := of_many _ (.inl rfl)
theorem bit2MemHl : Statement (.bit2MemHl) := of_many _ (.inl rfl)
theorem bit2A : Statement (.bit2A) := of_many _ (.inl rfl)
theorem bit3B : Statement (.bit3B) := of_many _ (.inl rfl)
theorem bit3C : Statement (.bit3C) := of_many _ (.inl rfl)
theorem bit3D : Statement (.bit3D) := of_many _ (.inl rfl)
theorem bit3E : Statement (.bit3E) := of_many _ (.inl rfl)
theorem bit3H : Statement (.bit3H) := of_many _ (.inl rfl)
theorem bit3L : Statement (.bit3L) := of_many _ (.inl rfl)
theorem bit3MemHl : Statement (.bit3MemHl) := of_many _ (.inl rfl)
theorem bit3A : Statement (.bit3A) := of_many _ (.inl rfl)
theorem bit4B : Statement (.bit4B) := of_many _ (.inl rfl)
theorem bit4C : Statement (.bit4C) := of_many _ (.inl rfl)
theorem bit4D : Statement (.bit4D) := of_many _ (.inl rfl)
theorem bit4E : Statement (.bit4E) := of_many _ (.inl rfl)
theorem bit4H : Statement (.bit4H) := of_many _ (.inl rfl)
theorem bit4L : Statement (.bit4L) := of_many _ (.inl rfl)
theorem bit4MemHl : Statement (.bit4MemHl) := of_many _ (.inl rfl)
theorem bit4A : Statement (.bit4A) := of_many _ (.inl rfl)
theorem bit5B : Statement (.bit5B) := of_many _ (.inl rfl)
theorem bit5C : Statement (.bit5C) := of_many _ (.inl rfl)
theorem bit5D : Statement (.bit5D) := of_many _ (.inl rfl)
theorem bit5E : Statement (.bit5E) := of_many _ (.inl rfl)
theorem bit5H : Statement (.bit5H) := of_many _ (.inl rfl)
theorem bit5L : Statement (.bit5L) := of_many _ (.inl rfl)
theorem bit5MemHl : Statement (.bit5MemHl) := of_many _ (.inl rfl)
theorem bit5A : Statement (.bit5A) := of_many _ (.inl rfl)
theorem bit6B : Statement (.bit6B) := of_many _ (.inl rfl)
theorem bit6C : Statement (.bit6C) := of_many _ (.inl rfl)
theorem bit6D : Statement (.bit6D) := of_many _ (.inl rfl)
theorem bit6E : Statement (.bit6E) := of_many _ (.inl rfl)
theorem bit6H : Statement (.bit6H) := of_many _ (.inl rfl)
theorem bit6L : Statement (.bit6L) := of_many _ (.inl rfl)
theorem bit6MemHl : Statement (.bit6MemHl) := of_many _ (.inl rfl)
theorem bit6A : Statement (.bit6A) := of_many _ (.inl rfl)
theorem bit7B : Statement (.bit7B) := of_many _ (.inl rfl)
theorem bit7C : Statement (.bit7C) := of_many _ (.inl rfl)
theorem bit7D : Statement (.bit7D) := of_many _ (.inl rfl)
theorem bit7E : Statement (.bit7E) := of_many _ (.inl rfl)
theorem bit7H : Statement (.bit7H) := of_many _ (.inl rfl)
theorem bit7L : Statement (.bit7L) := of_many _ (.inl rfl)
theorem bit7MemHl : Statement (.bit7MemHl) := of_many _ (.inl rfl)
theorem bit7A : Statement (.bit7A) := of_many _ (.inl rfl)
theorem res0B : Statement (.res0B) := of_many _ (.inl rfl)
theorem res0C : Statement (.res0C) := of_many _ (.inl rfl)
theorem res0D : Statement (.res0D) := of_many _ (.inl rfl)
theorem res0E : Statement (.res0E) := of_many _ (.inl rfl)
theorem res0H : Statement (.res0H) := of_many _ (.inl rfl)
theorem res0L : Statement (.res0L) := of_many _ (.inl rfl)
theorem res0MemHl : Statement (.res0MemHl) := of_many _ (.inl rfl)
theorem res0A : Statement (.res0A) := of_many _ (.inl rfl)
theorem res1B : Statement (.res1B) := of_many _ (.inl rfl)
theorem res1C : Statement (.res1C) := of_many _ (.inl rfl)
theorem res1D : Statement (.res1D) := of_many _ (.inl rfl)
theorem res1E : Statement (.res1E) := of_many _ (.inl rfl)
theorem res1H : Statement (.res1H) := of_many _ (.inl rfl)
theorem res1L : Statement (.res1L) := of_many _ (.inl rfl)
theorem res1MemHl : Statement (.res1MemHl) := of_many _ (.inl rfl)
theorem res1A : Statement (.res1A) := of_many _ (.inl rfl)
theorem res2B : Statement (.res2B) := of_many _ (.inl rfl)
theorem res2C : Statement (.res2C) := of_many _ (.inl rfl)
theorem res2D : Statement (.res2D) := of_many _ (.inl rfl)
theorem res2E : Statement (.res2E) := of_many _ (.inl rfl)
theorem res2H : Statement (.res2H) := of_many _ (.inl rfl)
theorem res2L : Statement (.res2L) := of_many _ (.inl rfl)
theorem res2MemHl : Statement (.res2MemHl) := of_many _ (.inl rfl)
theorem res2A : Statement (.res2A) := of_many _ (.inl rfl)
theorem res3B : Statement (.res3B) := of_many _ (.inl rfl)
theorem res3C : Statement (.res3C) := of_many _ (.inl rfl)
theorem res3D : Statement (.res3D) := of_many _ (.inl rfl)
theorem res3E : Statement (.res3E) := of_many _ (.inl rfl)
theorem res3H : Statement (.res3H) := of_many _ (.inl rfl)
theorem res3L : Statement (.res3L) := of_many _ (.inl rfl)
theorem res3MemHl : Statement (.res3MemHl) := of_many _ (.inl rfl)
theorem res3A : Statement (.res3A) := of_many _ (.inl rfl)
theorem res4B : Statement (.res4B) := of_many _ (.inl rfl)
theorem res4C : Statement (.res4C) := of_many _ (.inl rfl)
theorem res4D : Statement (.res4D) := of_many _ (.inl rfl)
theorem res4E : Statement (.res4E) := of_many _ (.inl rfl)
theorem res4H : Statement (.res4H) := of_many _ (.inl rfl)
theorem res4L : Statement (.res4L) := of_many _ (.inl rfl)
theorem res4MemHl : Statement (.res4MemHl) := of_many _ (.inl rfl)
theorem res4A : Statement (.res4A) := of_many _ (.inl rfl)
theorem res5B : Statement (.res5B) := of_many _ (.inl rfl)
theorem res5C : Statement (.res5C) := of_many _ (.inl rfl)
theorem res5D : Statement (.res5D) := of_many _ (.inl rfl)
theorem res5E : Statement (.res5E) := of_many _ (.inl rfl)
theorem res5H : Statement (.res5H) := of_many _ (.inl rfl)
theorem res5L : Statement (.res5L) := of_many _ (.inl rfl)
theorem res5MemHl : Statement (.res5MemHl) := of_many _ (.inl rfl)
theorem res5A : Statement (.res5A) := of_many _ (.inl rfl)
theorem res6B : Statement (.res6B) := of_many _ (.inl rfl)
theorem res6C : Statement (.res6C) := of_many _ (.inl rfl)
theorem res6D : Statement (.res6D) := of_many _ (.inl rfl)
theorem res6E : Statement (.res6E) := of_many _ (.inl rfl)
theorem res6H : Statement (.res6H) := of_many _ (.inl rfl)
theorem res6L : Statement (.res6L) := of_many _ (.inl rfl)
theorem res6MemHl : Statement (.res6MemHl) := of_many _ (.inl rfl)
theorem res6A : Statement (.res6A) := of_many _ (.inl rfl)
theorem res7B : Statement (.res7B) := of_many _ (.inl rfl)
theorem res7C : Statement (.res7C) := of_many _ (.inl rfl)
theorem res7D : Statement (.res7D) := of_many _ (.inl rfl)
theorem res7E : Statement (.res7E) := of_many _ (.inl rfl)
theorem res7H : Statement (.res7H) := of_many _ (.inl rfl)
theorem res7L : Statement (.res7L) := of_many _ (.inl rfl)
theorem res7MemHl : Statement (.res7MemHl) := of_many _ (.inl rfl)
theorem res7A : Statement (.res7A) := of_many _ (.inl rfl)
theorem set0B : Statement (.set0B) := of_many _ (.inl rfl)
theorem set0C : Statement (.set0C) := of_many _ (.inl rfl)
theorem set0D : Statement (.set0D) := of_many _ (.inl rfl)
theorem set0E : Statement (.set0E) := of_many _ (.inl rfl)
theorem set0H : Statement (.set0H) := of_many _ (.inl rfl)
theorem set0L : Statement (.set0L) := of_many _ (.inl rfl)
theorem set0MemHl : Statement (.set0MemHl) := of_many _ (.inl rfl)
theorem set0A : Statement (.set0A) := of_many _ (.inl rfl)
theorem set1B : Statement (.set1B) := of_many _ (.inl rfl)
theorem set1C : Statement (.set1C) := of_many _ (.inl rfl)
theorem set1D : Statement (.set1D) := of_many _ (.inl rfl)
theorem set1E : Statement (.set1E) := of_many _ (.inl rfl)
theorem set1H : Statement (.set1H) := of_many _ (.inl rfl)
theorem set1L : Statement (.set1L) := of_many _ (.inl rfl)
theorem set1MemHl : Statement (.set1MemHl) := of_many _ (.inl rfl)
theorem set1A : Statement (.set1A) := of_many _ (.inl rfl)
theorem set2B : Statement (.set2B) := of_many _ (.inl rfl)
theorem set2C : Statement (.set2C) := of_many _ (.inl rfl)
theorem set2D : Statement (.set2D) := of_many _ (.inl rfl)
theorem set2E : Statement (.set2E) := of_many _ (.inl rfl)
theorem set2H : Statement (.set2H) := of_many _ (.inl rfl)
theorem set2L : Statement (.set2L) := of_many _ (.inl rfl)
theorem set2MemHl : Statement (.set2MemHl) := of_many _ (.inl rfl)
theorem set2A : Statement (.set2A) := of_many _ (.inl rfl)
theorem set3B : Statement (.set3B) := of_many _ (.inl rfl)
theorem set3C : Statement (.set3C) := of_many _ (.inl rfl)
theorem set3D : Statement (.set3D) := of_many _ (.inl rfl)
theorem set3E : Statement (.set3E) := of_many _ (.inl rfl)
theorem set3H : Statement (.set3H) := of_many _ (.inl rfl)
theorem set3L : Statement (.set3L) := of_many _ (.inl rfl)
theorem set3MemHl : Statement (.set3MemHl) := of_many _ (.inl rfl)
theorem set3A : Statement (.set3A) := of_many _ (.inl rfl)
theorem set4B : Statement (.set4B) := of_many _ (.inl rfl)
theorem set4C : Statement (.set4C) := of_many _ (.inl rfl)
theorem set4D : Statement (.set4D) := of_many _ (.inl rfl)
theorem set4E : Statement (.set4E) := of_many _ (.inl rfl)
theorem set4H : Statement (.set4H) := of_many _ (.inl rfl)
theorem set4L : Statement (.set4L) := of_many _ (.inl rfl)
theorem set4MemHl : Statement (.set4MemHl) := of_many _ (.inl rfl)
theorem set4A : Statement (.set4A) := of_many _ (.inl rfl)
theorem set5B : Statement (.set5B) := of_many _ (.inl rfl)
theorem set5C : Statement (.set5C) := of_many _ (.inl rfl)
theorem set5D : Statement (.set5D) := of_many _ (.inl rfl)
theorem set5E : Statement (.set5E) := of_many _ (.inl rfl)
theorem set5H : Statement (.set5H) := of_many _ (.inl rfl)
theorem set5L : Statement (.set5L) := of_many _ (.inl rfl)
theorem set5MemHl : Statement (.set5MemHl) := of_many _ (.inl rfl)
theorem set5A : Statement (.set5A) := of_many _ (.inl rfl)
theorem set6B : Statement (.set6B) := of_many _ (.inl rfl)
theorem set6C : Statement (.set6C) := of_many _ (.inl rfl)
theorem set6D : Statement (.set6D) := of_many _ (.inl rfl)
theorem set6E : Statement (.set6E) := of_many _ (.inl rfl)
theorem set6H : Statement (.set6H) := of_many _ (.inl rfl)
theorem set6L : Statement (.set6L) := of_many _ (.inl rfl)
theorem set6MemHl : Statement (.set6MemHl) := of_many _ (.inl rfl)
theorem set6A : Statement (.set6A) := of_many _ (.inl rfl)
theorem set7B : Statement (.set7B) := of_many _ (.inl rfl)
theorem set7C : Statement (.set7C) := of_many _ (.inl rfl)
theorem set7D : Statement (.set7D) := of_many _ (.inl rfl)
theorem set7E : Statement (.set7E) := of_many _ (.inl rfl)
theorem set7H : Statement (.set7H) := of_many _ (.inl rfl)
theorem set7L : Statement (.set7L) := of_many _ (.inl rfl)
theorem set7MemHl : Statement (.set7MemHl) := of_many _ (.inl rfl)
theorem set7A : Statement (.set7A) := of_many _ (.inl rfl)
theorem inBPortC : Statement (.inBPortC) := of_many _ (.inl rfl)
theorem outPortCB : Statement (.outPortCB) := of_many _ (.inl rfl)
theorem sbcHlBc : Statement (.sbcHlBc) := of_many _ (.inl rfl)
theorem ldMemNnBc (nn : Word) : Statement (.ldMemNnBc nn) := of_many _ (.inr (.inr rfl))
theorem neg : Statement (.neg) := of_many _ (.inl rfl)
theorem retn : Statement (.retn) := of_many _ (.inl rfl)
theorem im0 : Statement (.im0) := of_many _ (.inl rfl)
theorem ldIA : Statement (.ldIA) := of_many _ (.inl rfl)
theorem inCPortC : Statement (.inCPortC) := of_many _ (.inl rfl)
theorem outPortCC : Statement (.outPortCC) := of_many _ (.inl rfl)
theorem adcHlBc : Statement (.adcHlBc) := of_many _ (.inl rfl)
theorem ldBcMemNn (nn : Word) : Statement (.ldBcMemNn nn) := of_many _ (.inr (.inr rfl))
theorem reti : Statement (.reti) := of_many _ (.inl rfl)
theorem ldRA : Statement (.ldRA) := of_many _ (.inl rfl)
theorem inDPortC : Statement (.inDPortC) := of_many _ (.inl rfl)
theorem outPortCD : Statement (.outPortCD) := of_many _ (.inl rfl)
theorem sbcHlDe : Statement (.sbcHlDe) := of_many _ (.inl rfl)
theorem ldMemNnDe (nn : Word) : Statement (.ldMemNnDe nn) := of_many _ (.inr (.inr rfl))
theorem im1 : Statement (.im1) := of_many _ (.inl rfl)
theorem ldAI : Statement (.ldAI) := of_many _ (.inl rfl)
theorem inEPortC : Statement (.inEPortC) := of_many _ (.inl rfl)
theorem outPortCE : Statement (.outPortCE) := of_many _ (.inl rfl)
theorem adcHlDe : Statement (.adcHlDe) := of_many _ (.inl rfl)
theorem ldDeMemNn (nn : Word) : Statement (.ldDeMemNn nn) := of_many _ (.inr (.inr rfl))
theorem im2 : Statement (.im2) := of_many _ (.inl rfl)
theorem ldAR : Statement (.ldAR) := of_many _ (.inl rfl)
theorem inHPortC : Statement (.inHPortC) := of_many _ (.inl rfl)
theorem outPortCH : Statement (.outPortCH) := of_many _ (.inl rfl)
theorem sbcHlHl : Statement (.sbcHlHl) := of_many _ (.inl rfl)
theorem ldMemNnHlEd (nn : Word) : Statement (.ldMemNnHlEd nn) := of_many _ (.inr (.inr rfl))
theorem rrd : Statement (.rrd) := of_many _ (.inl rfl)
theorem inLPortC : Statement (.inLPortC) := of_many _ (.inl rfl)
theorem outPortCL : Statement (.outPortCL) := of_many _ (.inl rfl)
theorem adcHlHl : Statement (.adcHlHl) := of_many _ (.inl rfl)
theorem ldHlMemNnEd (nn : Word) : Statement (.ldHlMemNnEd nn) := of_many _ (.inr (.inr rfl))
theorem rld : Statement (.rld) := of_many _ (.inl rfl)
theorem sbcHlSp : Statement (.sbcHlSp) := of_many _ (.inl rfl)
theorem ldMemNnSp (nn : Word) : Statement (.ldMemNnSp nn) := of_many _ (.inr (.inr rfl))
theorem inAPortC : Statement (.inAPortC) := of_many _ (.inl rfl)
theorem outPortCA : Statement (.outPortCA) := of_many _ (.inl rfl)
theorem adcHlSp : Statement (.adcHlSp) := of_many _ (.inl rfl)
theorem ldSpMemNn (nn : Word) : Statement (.ldSpMemNn nn) := of_many _ (.inr (.inr rfl))
theorem ldi : Statement (.ldi) := of_many _ (.inl rfl)
theorem cpi : Statement (.cpi) := of_many _ (.inl rfl)
theorem ini : Statement (.ini) := of_many _ (.inl rfl)
theorem outi : Statement (.outi) := of_many _ (.inl rfl)
theorem ldd : Statement (.ldd) := of_many _ (.inl rfl)
theorem cpd : Statement (.cpd) := of_many _ (.inl rfl)
theorem ind : Statement (.ind) := of_many _ (.inl rfl)
theorem outd : Statement (.outd) := of_many _ (.inl rfl)
theorem ldir : Statement (.ldir) := of_many _ (.inl rfl)
theorem cpir : Statement (.cpir) := of_many _ (.inl rfl)
theorem inir : Statement (.inir) := of_many _ (.inl rfl)
theorem otir : Statement (.otir) := of_many _ (.inl rfl)
theorem lddr : Statement (.lddr) := of_many _ (.inl rfl)
theorem cpdr : Statement (.cpdr) := of_many _ (.inl rfl)
theorem indr : Statement (.indr) := of_many _ (.inl rfl)
theorem otdr : Statement (.otdr) := of_many _ (.inl rfl)
theorem patch : Statement (.patch) := of_many _ (.inl rfl)
theorem addIxBc : Statement (.addIxBc) := of_many _ (.inl rfl)
theorem addIxDe : Statement (.addIxDe) := of_many _ (.inl rfl)
theorem ldIxNn (nn : Word) : Statement (.ldIxNn nn) := of_many _ (.inr (.inr rfl))
theorem ldMemNnIx (nn : Word) : Statement (.ldMemNnIx nn) := of_many _ (.inr (.inr rfl))
theorem incIx : Statement (.incIx) := of_many _ (.inl rfl)
theorem addIxIx : Statement (.addIxIx) := of_many _ (.inl rfl)
theorem ldIxMemNn (nn : Word) : Statement (.ldIxMemNn nn) := of_many _ (.inr (.inr rfl))
theorem decIx : Statement (.decIx) := of_many _ (.inl rfl)
theorem incMemIxd (d : Byte) : Statement (.incMemIxd d) := of_many _ (.inr (.inl rfl))
theorem decMemIxd (d : Byte) : Statement (.decMemIxd d) := of_many _ (.inr (.inl rfl))
theorem ldMemIxdN (d : Byte) (n : Byte) : Statement (.ldMemIxdN d n) := of_many _ (.inr (.inr rfl))
theorem addIxSp : Statement (.addIxSp) := of_many _ (.inl rfl)
theorem ldBMemIxd (d : Byte) : Statement (.ldBMemIxd d) := of_many _ (.inr (.inl rfl))
theorem ldCMemIxd (d : Byte) : Statement (.ldCMemIxd d) := of_many _ (.inr (.inl rfl))
theorem ldDMemIxd (d : Byte) : Statement (.ldDMemIxd d) := of_many _ (.inr (.inl rfl))
theorem ldEMemIxd (d : Byte) : Statement (.ldEMemIxd d) := of_many _ (.inr (.inl rfl))
theorem ldHMemIxd (d : Byte) : Statement (.ldHMemIxd d) := of_many _ (.inr (.inl rfl))
theorem ldLMemIxd (d : Byte) : Statement (.ldLMemIxd d) := of_many _ (.inr (.inl rfl))
theorem ldMemIxdB (d : Byte) : Statement (.ldMemIxdB d) := of_many _ (.inr (.inl rfl))
theorem ldMemIxdC (d : Byte) : Statement (.ldMemIxdC d) := of_many _ (.inr (.inl rfl))
theorem ldMemIxdD (d : Byte) : Statement (.ldMemIxdD d) := of_many _ (.inr (.inl rfl))
theorem ldMemIxdE (d : Byte) : Statement (.ldMemIxdE d) := of_many _ (.inr (.inl rfl))
theorem ldMemIxdH (d : Byte) : Statement (.ldMemIxdH d) := of_many _ (.inr (.inl rfl))
theorem ldMemIxdL (d : Byte) : Statement (.ldMemIxdL d) := of_many _ (.inr (.inl rfl))
theorem ldMemIxdA (d : Byte) : Statement (.ldMemIxdA d) := of_many _ (.inr (.inl rfl))
theorem ldAMemIxd (d : Byte) : Statement (.ldAMemIxd d) := of_many _ (.inr (.inl rfl))
theorem addAMemIxd (d : Byte) : Statement (.addAMemIxd d) := of_many _ (.inr (.inl rfl))
theorem adcAMemIxd (d : Byte) : Statement (.adcAMemIxd d) := of_many _ (.inr (.inl rfl))
theorem subMemIxd (d : Byte) : Statement (.subMemIxd d) := of_many _ (.inr (.inl rfl))
theorem sbcAMemIxd (d : Byte) : Statement (.sbcAMemIxd d) := of_many _ (.inr (.inl rfl))
theorem andMemIxd (d : Byte) : Statement (.andMemIxd d) := of_many _ (.inr (.inl rfl))
theorem xorMemIxd (d : Byte) : Statement (.xorMemIxd d) := of_many _ (.inr (.inl rfl))
theorem orMemIxd (d : Byte) : Statement (.orMemIxd d) := of_many _ (.inr (.inl rfl))
theorem cpMemIxd (d : Byte) : Statement (.cpMemIxd d) := of_many _ (.inr (.inl rfl))
theorem popIx : Statement (.popIx) := of_many _ (.inl rfl)
theorem exMemSpIx : Statement (.exMemSpIx) := of_many _ (.inl rfl)
theorem pushIx : Statement (.pushIx) := of_many _ (.inl rfl)
theorem jpIx : Statement (.jpIx) := of_many _ (.inl rfl)
theorem ldSpIx : Statement (.ldSpIx) := of_many _ (.inl rfl)
theorem addIyBc : Statement (.addIyBc) := of_many _ (.inl rfl)
theorem addIyDe : Statement (.addIyDe) := of_many _ (.inl rfl)
theorem ldIyNn (nn : Word) : Statement (.ldIyNn nn) := of_many _ (.inr (.inr rfl))
theorem ldMemNnIy (nn : Word) : Statement (.ldMemNnIy nn) := of_many _ (.inr (.inr rfl))
theorem incIy : Statement (.incIy) := of_many _ (.inl rfl)
theorem addIyIy : Statement (.addIyIy) := of_many _ (.inl rfl)
theorem ldIyMemNn (nn : Word) : Statement (.ldIyMemNn nn) := of_many _ (.inr (.inr rfl))
theorem decIy : Statement (.decIy) := of_many _ (.inl rfl)
theorem incMemIyd (d : Byte) : Statement (.incMemIyd d) := of_many _ (.inr (.inl rfl))
theorem decMemIyd (d : Byte) : Statement (.decMemIyd d) := of_many _ (.inr (.inl rfl))
theorem ldMemIydN (d : Byte) (n : Byte) : Statement (.ldMemIydN d n) := of_many _ (.inr (.inr rfl))
theorem addIySp : Statement (.addIySp) := of_many _ (.inl rfl)
theorem ldBMemIyd (d : Byte) : Statement (.ldBMemIyd d) := of_many _ (.inr (.inl rfl))
theorem ldCMemIyd (d : Byte) : Statement (.ldCMemIyd d) := of_many _ (.inr (.inl rfl))
theorem ldDMemIyd (d : Byte) : Statement (.ldDMemIyd d) := of_many _ (.inr (.inl rfl))
theorem ldEMemIyd (d : Byte) : Statement (.ldEMemIyd d) := of_many _ (.inr (.inl rfl))
theorem ldHMemIyd (d : Byte) : Statement (.ldHMemIyd d) := of_many _ (.inr (.inl rfl))
theorem ldLMemIyd (d : Byte) : Statement (.ldLMemIyd d) := of_many _ (.inr (.inl rfl))
theorem ldMemIydB (d : Byte) : Statement (.ldMemIydB d) := of_many _ (.inr (.inl rfl))
theorem ldMemIydC (d : Byte) : Statement (.ldMemIydC d) := of_many _ (.inr (.inl rfl))
theorem ldMemIydD (d : Byte) : Statement (.ldMemIydD d) := of_many _ (.inr (.inl rfl))
theorem ldMemIydE (d : Byte) : Statement (.ldMemIydE d) := of_many _ (.inr (.inl rfl))
theorem ldMemIydH (d : Byte) : Statement (.ldMemIydH d) := of_many _ (.inr (.inl rfl))
theorem ldMemIydL (d : Byte) : Statement (.ldMemIydL d) := of_many _ (.inr (.inl rfl))
theorem ldMemIydA (d : Byte) : Statement (.ldMemIydA d) := of_many _ (.inr (.inl rfl))
theorem ldAMemIyd (d : Byte) : Statement (.ldAMemIyd d) := of_many _ (.inr (.inl rfl))
theorem addAMemIyd (d : Byte) : Statement (.addAMemIyd d) := of_many _ (.inr (.inl rfl))
theorem adcAMemIyd (d : Byte) : Statement (.adcAMemIyd d) := of_many _ (.inr (.inl rfl))
theorem subMemIyd (d : Byte) : Statement (.subMemIyd d) := of_many _ (.inr (.inl rfl))
theorem sbcAMemIyd (d : Byte) : Statement (.sbcAMemIyd d) := of_many _ (.inr (.inl rfl))
theorem andMemIyd (d : Byte) : Statement (.andMemIyd d) := of_many _ (.inr (.inl rfl))
theorem xorMemIyd (d : Byte) : Statement (.xorMemIyd d) := of_many _ (.inr (.inl rfl))
theorem orMemIyd (d : Byte) : Statement (.orMemIyd d) := of_many _ (.inr (.inl rfl))
theorem cpMemIyd (d : Byte) : Statement (.cpMemIyd d) := of_many _ (.inr (.inl rfl))
theorem popIy : Statement (.popIy) := of_many _ (.inl rfl)
theorem exMemSpIy : Statement (.exMemSpIy) := of_many _ (.inl rfl)
theorem pushIy : Statement (.pushIy) := of_many _ (.inl rfl)
theorem jpIy : Statement (.jpIy) := of_many _ (.inl rfl)
theorem ldSpIy : Statement (.ldSpIy) := of_many _ (.inl rfl)
theorem rlcMemIxd (d : Byte) : Statement (.rlcMemIxd d) := of_many _ (.inr (.inr rfl))
theorem rrcMemIxd (d : Byte) : Statement (.rrcMemIxd d) := of_many _ (.inr (.inr rfl))
theorem rlMemIxd (d : Byte) : Statement (.rlMemIxd d) := of_many _ (.inr (.inr rfl))
theorem rrMemIxd (d : Byte) : Statement (.rrMemIxd d) := of_many _ (.inr (.inr rfl))
theorem slaMemIxd (d : Byte) : Statement (.slaMemIxd d) := of_many _ (.inr (.inr rfl))
theorem sraMemIxd (d : Byte) : Statement (.sraMemIxd d) := of_many _ (.inr (.inr rfl))
theorem srlMemIxd (d : Byte) : Statement (.srlMemIxd d) := of_many _ (.inr (.inr rfl))
theorem bit0MemIxd (d : Byte) : Statement (.bit0MemIxd d) := of_many _ (.inr (.inr rfl))
theorem bit1MemIxd (d : Byte) : Statement (.bit1MemIxd d) := of_many _ (.inr (.inr rfl))
theorem bit2MemIxd (d : Byte) : Statement (.bit2MemIxd d) := of_many _ (.inr (.inr rfl))
theorem bit3MemIxd (d : Byte) : Statement (.bit3MemIxd d) := of_many _ (.inr (.inr rfl))
theorem bit4MemIxd (d : Byte) : Statement (.bit4MemIxd d) := of_many _ (.inr (.inr rfl))
theorem bit5MemIxd (d : Byte) : Statement (.bit5MemIxd d) := of_many _ (.inr (.inr rfl))
theorem bit6MemIxd (d : Byte) : Statement (.bit6MemIxd d) := of_many _ (.inr (.inr rfl))
theorem bit7MemIxd (d : Byte) : Statement (.bit7MemIxd d) := of_many _ (.inr (.inr rfl))
theorem res0MemIxd (d : Byte) : Statement (.res0MemIxd d) := of_many _ (.inr (.inr rfl))
theorem res1MemIxd (d : Byte) : Statement (.res1MemIxd d) := of_many _ (.inr (.inr rfl))
theorem res2MemIxd (d : Byte) : Statement (.res2MemIxd d) := of_many _ (.inr (.inr rfl))
theorem res3MemIxd (d : Byte) : Statement (.res3MemIxd d) := of_many _ (.inr (.inr rfl))
theorem res4MemIxd (d : Byte) : Statement (.res4MemIxd d) := of_many _ (.inr (.inr rfl))
theorem res5MemIxd (d : Byte) : Statement (.res5MemIxd d) := of_many _ (.inr (.inr rfl))
theorem res6MemIxd (d : Byte) : Statement (.res6MemIxd d) := of_many _ (.inr (.inr rfl))
theorem res7MemIxd (d : Byte) : Statement (.res7MemIxd d) := of_many _ (.inr (.inr rfl))
theorem set0MemIxd (d : Byte) : Statement (.set0MemIxd d) := of_many _ (.inr (.inr rfl))
theorem set1MemIxd (d : Byte) : Statement (.set1MemIxd d) := of_many _ (.inr (.inr rfl))
theorem set2MemIxd (d : Byte) : Statement (.set2MemIxd d) := of_many _ (.inr (.inr rfl))
theorem set3MemIxd (d : Byte) : Statement (.set3MemIxd d) := of_many _ (.inr (.inr rfl))
theorem set4MemIxd (d : Byte) : Statement (.set4MemIxd d) := of_many _ (.inr (.inr rfl))
theorem set5MemIxd (d : Byte) : Statement (.set5MemIxd d) := of_many _ (.inr (.inr rfl))
theorem set6MemIxd (d : Byte) : Statement (.set6MemIxd d) := of_many _ (.inr (.inr rfl))
theorem set7MemIxd (d : Byte) : Statement (.set7MemIxd d) := of_many _ (.inr (.inr rfl))
theorem rlcMemIyd (d : Byte) : Statement (.rlcMemIyd d) := of_many _ (.inr (.inr rfl))
theorem rrcMemIyd (d : Byte) : Statement (.rrcMemIyd d) := of_many _ (.inr (.inr rfl))
theorem rlMemIyd (d : Byte) : Statement (.rlMemIyd d) := of_many _ (.inr (.inr rfl))
theorem rrMemIyd (d : Byte) : Statement (.rrMemIyd d) := of_many _ (.inr (.inr rfl))
theorem slaMemIyd (d : Byte) : Statement (.slaMemIyd d) := of_many _ (.inr (.inr rfl))
theorem sraMemIyd (d : Byte) : Statement (.sraMemIyd d) := of_many _ (.inr (.inr rfl))
theorem srlMemIyd (d : Byte) : Statement (.srlMemIyd d) := of_many _ (.inr (.inr rfl))
theorem bit0MemIyd (d : Byte) : Statement (.bit0MemIyd d) := of_many _ (.inr (.inr rfl))
theorem bit1MemIyd (d : Byte) : Statement (.bit1MemIyd d) := of_many _ (.inr (.inr rfl))
theorem bit2MemIyd (d : Byte) : Statement (.bit2MemIyd d) := of_many _ (.inr (.inr rfl))
theorem bit3MemIyd (d : Byte) : Statement (.bit3MemIyd d) := of_many _ (.inr (.inr rfl))
theorem bit4MemIyd (d : Byte) : Statement (.bit4MemIyd d) := of_many _ (.inr (.inr rfl))
theorem bit5MemIyd (d : Byte) : Statement (.bit5MemIyd d) := of_many _ (.inr (.inr rfl))
theorem bit6MemIyd (d : Byte) : Statement (.bit6MemIyd d) := of_many _ (.inr (.inr rfl))
theorem bit7MemIyd (d : Byte) : Statement (.bit7MemIyd d) := of_many _ (.inr (.inr rfl))
theorem res0MemIyd (d : Byte) : Statement (.res0MemIyd d) := of_many _ (.inr (.inr rfl))
theorem res1MemIyd (d : Byte) : Statement (.res1MemIyd d) := of_many _ (.inr (.inr rfl))
theorem res2MemIyd (d : Byte) : Statement (.res2MemIyd d) := of_many _ (.inr (.inr rfl))
theorem res3MemIyd (d : Byte) : Statement (.res3MemIyd d) := of_many _ (.inr (.inr rfl))
theorem res4MemIyd (d : Byte) : Statement (.res4MemIyd d) := of_many _ (.inr (.inr rfl))
theorem res5MemIyd (d : Byte) : Statement (.res5MemIyd d) := of_many _ (.inr (.inr rfl))
theorem res6MemIyd (d : Byte) : Statement (.res6MemIyd d) := of_many _ (.inr (.inr rfl))
theorem res7MemIyd (d : Byte) : Statement (.res7MemIyd d) := of_many _ (.inr (.inr rfl))
theorem set0MemIyd (d : Byte) : Statement (.set0MemIyd d) := of_many _ (.inr (.inr rfl))
theorem set1MemIyd (d : Byte) : Statement (.set1MemIyd d) := of_many _ (.inr (.inr rfl))
theorem set2MemIyd (d : Byte) : Statement (.set2MemIyd d) := of_many _ (.inr (.inr rfl))
theorem set3MemIyd (d : Byte) : Statement (.set3MemIyd d) := of_many _ (.inr (.inr rfl))
theorem set4MemIyd (d : Byte) : Statement (.set4MemIyd d) := of_many _ (.inr (.inr rfl))
theorem set5MemIyd (d : Byte) : Statement (.set5MemIyd d) := of_many _ (.inr (.inr rfl))
theorem set6MemIyd (d : Byte) : Statement (.set6MemIyd d) := of_many _ (.inr (.inr rfl))
theorem set7MemIyd (d : Byte) : Statement (.set7MemIyd d) := of_many _ (.inr (.inr rfl))

end Sys2Proof.Laws.EncodedLength
end

