-- ==== Sys2Proof/Laws/Step.lean ====
section
/-! SUPPORT. The host's actions and `PATCH`, `EI`, taking an interrupt, and the inversion of a step: everything a step can do,
once. -/

namespace Sys2Proof.Machine

/-! ### The host's actions and `PATCH` -/

/-- What an action leaves of the counters, the requests and the host's part, and of the configuration. -/
theorem State.act_keeps (s : State) (x : HostAction) :
    (s.act x).cfg = s.cfg ∧ s.charged (s.act x) 0 ∧ s.quiet (s.act x) := by
  have h0 : s.iCount = s.iCount - ((0 : Nat) : Int) := by simp
  cases x with
  | internalWrite a v =>
    unfold State.act State.internalWrite State.writeTarget
    dsimp only
    split <;> exact ⟨rfl, ⟨h0, rfl, rfl, rfl⟩, rfl, rfl, rfl, rfl⟩
  | setCpu regs => exact ⟨rfl, ⟨h0, rfl, rfl, rfl⟩, rfl, rfl, rfl, rfl⟩
  | setIoByte v => exact ⟨rfl, ⟨h0, rfl, rfl, rfl⟩, rfl, rfl, rfl, rfl⟩
  | setRomSubPage v => exact ⟨rfl, ⟨h0, rfl, rfl, rfl⟩, rfl, rfl, rfl, rfl⟩
  | setRomEnableMask v => exact ⟨rfl, ⟨h0, rfl, rfl, rfl⟩, rfl, rfl, rfl, rfl⟩

theorem State.act_memoryWf (s : State) (x : HostAction) (h : s.memoryWf) : (s.act x).memoryWf := by
  cases x with
  | internalWrite a v => exact s.internalWrite_memoryWf a v h
  | setCpu regs => exact h
  | setIoByte v => exact h
  | setRomSubPage v => exact h
  | setRomEnableMask v => exact h

theorem State.act_inside (s : State) (x : HostAction) (hv : s.cfg.valid = true) (h : s.memoryInside) :
    (s.act x).memoryInside := by
  cases x with
  | internalWrite a v => exact s.internalWrite_inside a v hv h
  | setCpu regs => exact h
  | setIoByte v => exact h
  | setRomSubPage v => exact h
  | setRomEnableMask v => exact h

theorem State.acts_keep (l : List HostAction) (s : State) :
    (l.foldl State.act s).cfg = s.cfg ∧ s.charged (l.foldl State.act s) 0 ∧ s.quiet (l.foldl State.act s) := by
  induction l generalizing s with
  | nil => exact ⟨rfl, ⟨by simp, rfl, rfl, rfl⟩, rfl, rfl, rfl, rfl⟩
  | cons x l ih =>
    obtain ⟨a1, ⟨a2, a3, a4, a5⟩, a6, a7, a8, a9⟩ := ih (s.act x)
    obtain ⟨b1, ⟨b2, b3, b4, b5⟩, b6, b7, b8, b9⟩ := s.act_keeps x
    exact ⟨a1.trans b1, ⟨by rw [List.foldl_cons, a2, b2]; omega, by rw [List.foldl_cons, a3, b3], a4.trans b4, a5.trans b5⟩,
      a6.trans b6, a7.trans b7, a8.trans b8, a9.trans b9⟩

theorem State.acts_memoryWf (l : List HostAction) (s : State) (h : s.memoryWf) : (l.foldl State.act s).memoryWf := by
  induction l generalizing s with
  | nil => exact h
  | cons x l ih => exact ih (s.act x) (s.act_memoryWf x h)

theorem State.acts_inside (l : List HostAction) (s : State) (hv : s.cfg.valid = true) (h : s.memoryInside) :
    (l.foldl State.act s).memoryInside := by
  induction l generalizing s with
  | nil => exact h
  | cons x l ih => exact ih (s.act x) ((s.act_keeps x).1 ▸ hv) (s.act_inside x hv h)

/-- An action does the same to states that agree on the CPU, the memory and the map. -/
theorem State.act_congr (s u : State) (x : HostAction) (h : s.sameMemory u) (hc : s.cpu = u.cpu) :
    (s.act x).sameMemory (u.act x) ∧ (s.act x).cpu = (u.act x).cpu := by
  obtain ⟨h1, h2, h3, h4, h5, h6, h7⟩ := h
  cases x with
  | internalWrite a v =>
    have ht : s.updateTable (entryOf a) = u.updateTable (entryOf a) := by
      unfold State.updateTable State.ramTarget State.ramMap State.romRam State.pageExists State.page State.slot
      rw [h4, h5, h7]
    unfold State.act State.internalWrite State.writeTarget
    dsimp only
    rw [ht]
    split <;> simp [h1, h2, h3, h4, h5, h6, h7, hc, State.sameMemory, State.sameMap, State.setRomSubPage]
  | setCpu regs => exact ⟨⟨h1, h2, h3, h4, h5, h6, h7⟩, rfl⟩
  | setIoByte v => exact ⟨⟨h1, h2, h3, rfl, h5, h6, h7⟩, hc⟩
  | setRomSubPage v => exact ⟨⟨h1, h2, h3, h4, rfl, h6, h7⟩, hc⟩
  | setRomEnableMask v => exact ⟨⟨h1, h2, h3, h4, h5, rfl, h7⟩, hc⟩

theorem State.acts_congr (l : List HostAction) (s u : State) (h : s.sameMemory u) (hc : s.cpu = u.cpu) :
    (l.foldl State.act s).sameMemory (l.foldl State.act u) ∧ (l.foldl State.act s).cpu = (l.foldl State.act u).cpu := by
  induction l generalizing s u with
  | nil => exact ⟨h, hc⟩
  | cons x l ih =>
    obtain ⟨a, b⟩ := State.act_congr s u x h hc
    exact ih _ _ a b

/-- `PATCH` completes; it keeps the configuration, the canonical memories and their bounds, charges the configured cost, and calls the
host once (R332). -/
theorem hostPatch_spec (s : State) :
    ∃ t, hostPatch s = .next t ∧ t.cpu.eiDelay = false ∧ t.cfg = s.cfg ∧ (s.memoryWf → t.memoryWf) ∧
      (s.cfg.valid = true → s.memoryInside → t.memoryInside) ∧ s.charged t s.cfg.patchCycles ∧ s.called t (.patch (s.advance 2).cpu) := by
  let u := (s.advance 2).afterCall (.patch (s.advance 2).cpu)
  obtain ⟨a1, a2, a3⟩ := State.acts_keep ((s.advance 2).hostReply (.patch (s.advance 2).cpu)).actions u
  refine ⟨_, rfl, rfl, a1, fun w => ?_, fun v w => ?_, ?_, ?_⟩
  · exact State.acts_memoryWf _ u w
  · exact State.acts_inside _ u v w
  · obtain ⟨b1, b2, b3, b4⟩ := a2
    refine State.charged_endStep s _ s.cfg.patchCycles ⟨?_, ?_, b3, b4⟩
    · exact b1
    · exact b2
  · obtain ⟨b1, b2, b3, b4⟩ := a3
    exact ⟨b1, b2, b3, b4⟩

/-- `EI` (R328). -/
theorem enableInterrupts_spec (s : State) :
    ∃ t, enableInterrupts s = .next t ∧ t.cpu = { s.cpu.past 1 with iff1 := true, iff2 := true, eiDelay := true } ∧
      s.storesNothing t ∧ s.charged t 4 ∧ s.quiet t := by
  refine ⟨_, rfl, rfl, State.storesNothing_of _ _ ?_, ?_, ?_⟩
  · exact ⟨rfl, rfl, rfl, rfl, rfl, rfl, rfl⟩
  · exact ⟨rfl, rfl, rfl, rfl⟩
  · exact ⟨rfl, rfl, rfl, rfl⟩

/-! ### Taking an interrupt -/

/-- What every acceptance does, from a state `s` whose requests were already dropped (R504, R506 to R508). -/
theorem State.takeInterrupt_spec (s : State) (iff1 iff2 : Bool) (target : State → Word) (cost : Nat) :
    let t := (s.takeInterrupt iff1 iff2 target).endStep cost
    (∃ u : State, t.cpu = { s.cpu with
        iff1 := iff1, iff2 := iff2, halted := false, inService := true, eiDelay := false
        sp := s.cpu.sp - 2, pc := target u } ∧ u.sameMemory t) ∧
      (∀ r : State, s.sameMemory r → s.cpu.sp = r.cpu.sp → r.pushed t s.cpu.pc) ∧ s.charged t cost ∧ s.quiet t := by
  let w : State := { s with cpu := { s.cpu with iff1 := iff1, iff2 := iff2, halted := false, inService := true } }
  refine ⟨⟨w.push16 s.cpu.pc, ?_, ⟨rfl, rfl, rfl, rfl, rfl, rfl, rfl⟩⟩, fun r hm hp => ?_, ?_, ?_⟩
  · simp [State.takeInterrupt, w]
  · exact State.pushed_of r _ w s.cpu.pc hm hp ⟨rfl, rfl, rfl, rfl, rfl, rfl, rfl⟩
  · exact ⟨by simp [State.takeInterrupt], by simp [State.takeInterrupt], by simp [State.takeInterrupt],
      by simp [State.takeInterrupt]⟩
  · exact ⟨by simp [State.takeInterrupt], by simp [State.takeInterrupt], by simp [State.takeInterrupt],
      by simp [State.takeInterrupt]⟩

/-! ### The inversion of a step -/

theorem guardElapsed_next (o : Outcome) (t : State) : guardElapsed o = .next t ↔ o = .next t ∧ t.iElapsed < 2 ^ 64 := by
  cases o with
  | next u =>
    unfold guardElapsed
    by_cases h : u.iElapsed < 2 ^ 64
    · simp only [h, if_true]
      constructor
      · intro e
        cases e
        exact ⟨rfl, h⟩
      · exact fun e => e.1
    · simp only [h, if_false]
      constructor
      · intro e
        cases e
      · rintro ⟨e, h'⟩
        cases e
        exact absurd h' h
  | fault r => exact ⟨fun e => (nomatch e), fun e => (nomatch e.1)⟩
  | refused r => exact ⟨fun e => (nomatch e), fun e => (nomatch e.1)⟩

theorem preciseFrom_next (s : State) (o : Outcome) (t : State) : preciseFrom s o = .next t ↔ o = .next t := by
  cases o with
  | next u => exact Iff.rfl
  | fault r => exact ⟨fun e => (nomatch e), fun e => (nomatch e)⟩
  | refused q => exact ⟨fun e => (nomatch e), fun e => (nomatch e)⟩

theorem State.maskableReady_iff (s : State) :
    s.maskableReady = true ↔ s.intPending = true ∧ s.cpu.iff1 = true ∧ s.cpu.eiDelay = false := by
  simp [State.maskableReady, and_assoc]

/-- Phase 3 is the idle step, or the instruction at PC (R502, R510). -/
theorem State.phase3_cases (s t : State) (h : s.phase3 = .next t) :
    s.cpu.halted = true ∧ t = s.idle ∨
      s.cpu.halted = false ∧ ∃ i rest, decode s.fetch = .ok (i, rest) ∧ exec i s = .next t := by
  unfold State.phase3 at h
  by_cases hh : s.cpu.halted = true
  · rw [if_pos hh] at h
    cases h
    exact .inl ⟨hh, rfl⟩
  · rw [if_neg hh] at h
    refine .inr ⟨by simpa using hh, ?_⟩
    unfold State.executeInstruction at h
    split at h
    · next i rest e => exact ⟨i, rest, e, h⟩
    · exfalso
      unfold State.undocumented at h
      split at h
      · cases h
      · split at h <;> cases h
    · exfalso
      unfold State.undocumented at h
      split at h
      · cases h
      · split at h <;> cases h

/-- Everything a step that goes on can have done (R502 to R510). -/
theorem step_cases (s t : State) (h : step s = .next t) :
    t.iElapsed < 2 ^ 64 ∧
    (s.nmiPending = true ∧ t = s.acceptNmi ∨
      s.acceptsMaskable ∧ s.cpu.im ≠ .im2 ∧ t = s.acceptFixed ∨
      s.acceptsMaskable ∧ s.cpu.im = .im2 ∧ (s.hostReply (.acknowledge s.cpu)).accept = true ∧
        t = (s.afterCall (.acknowledge s.cpu)).acceptVectored (s.hostReply (.acknowledge s.cpu)).value ∨
      s.acknowledgeDeclined ∧ s.cfg.ackPolicy = .permissive ∧
        (s.afterCall (.acknowledge s.cpu)).dropRequest.phase3 = .next t ∨
      s.undisturbed ∧ s.phase3 = .next t) := by
  obtain ⟨h, hb⟩ := (guardElapsed_next _ _).mp h
  refine ⟨hb, ?_⟩
  unfold State.boundary at h
  by_cases hn : s.nmiPending = true
  · rw [if_pos hn] at h
    cases h
    exact .inl ⟨hn, rfl⟩
  · rw [if_neg hn] at h
    have hn' : s.nmiPending = false := by simpa using hn
    by_cases hr : s.maskableReady = true
    · have ha : s.acceptsMaskable := ⟨hn', (s.maskableReady_iff).mp hr⟩
      rw [if_pos hr] at h
      cases him : s.cpu.im with
      | im0 =>
        simp only [State.acceptMaskable, him] at h
        cases h
        exact .inr (.inl ⟨ha, by simp, rfl⟩)
      | im1 =>
        simp only [State.acceptMaskable, him] at h
        cases h
        exact .inr (.inl ⟨ha, by simp, rfl⟩)
      | im2 =>
        simp only [State.acceptMaskable, him, State.acknowledge] at h
        by_cases hacc : (s.hostReply (.acknowledge s.cpu)).accept = true
        · simp only [hacc, if_true] at h
          cases h
          exact .inr (.inr (.inl ⟨ha, rfl, hacc, rfl⟩))
        · simp only [hacc] at h
          cases hp : s.cfg.ackPolicy with
          | permissive =>
            simp only [hp] at h
            exact .inr (.inr (.inr (.inl ⟨⟨ha, him, by simpa using hacc⟩, rfl, (preciseFrom_next _ _ _).mp h⟩)))
          | strict =>
            simp only [hp] at h
            cases h
    · rw [if_neg hr] at h
      exact .inr (.inr (.inr (.inr ⟨⟨hn', mt (s.maskableReady_iff).mpr hr⟩, h⟩)))

/-- Where nothing is accepted the step is phase 3 (R502). -/
theorem step_undisturbed (s : State) (h : s.undisturbed) : step s = guardElapsed s.phase3 := by
  unfold step State.boundary
  rw [if_neg (by simp [h.1]), if_neg (mt s.maskableReady_iff.mp h.2)]

theorem guardElapsed_ok (t : State) (h : t.iElapsed < 2 ^ 64) : guardElapsed (.next t) = .next t := by
  unfold guardElapsed
  simp only [h, if_true]

end Sys2Proof.Machine
end

