-- ==== Sys2Proof/Tests/Slice0.lean ====
section
/-! SUPPORT. The model's own tests: an ill-formed configuration for each check, every row's bytes decoded, single steps
with the results of 95_test_vectors.md, and a state that meets the hypotheses of each statement. -/

namespace Sys2Proof.Tests

open Sys2Proof Sys2Proof.Machine

/-! ### A small machine -/

/-- The harness machine of 95_test_vectors.md section 0: RAM everywhere, PC 0x8000, one port handler for each direction. -/
def lab : State :=
  { State.reset with
    ioByte := 0x80
    cpu := { Cpu.reset with pc := 0x8000 }
    cfg := { Config.reference with portMapIn := [0x10], portMapOut := [0x20] } }

/-- The state with bytes placed as the host places them. -/
def placed (s : State) (a : Word) (l : List Byte) : State :=
  match l with
  | [] => s
  | b :: t => placed (s.internalWrite a b) (a + 1) t

/-- One step of `s` with `code` at PC and the bytes of `mem`, checked by `p`. -/
def stepped (s : State) (code : List Byte) (mem : List (Word × List Byte)) (p : State → Bool) : Bool :=
  match step (mem.foldl (fun u m => placed u m.1 m.2) (placed s s.cpu.pc code)) with
  | .next t => p t
  | _ => false

/-- A host answer that accepts, with a byte. -/
def answer (v : Byte) : HostReply :=
  { value := v, accept := true, abort := false, result := 0xFFFF, newPeriod := none, actions := [], raiseInt := false
    raiseNmi := false }

/-- A host answer that declines. -/
def declined : HostReply := { answer 0 with accept := false }

/-- The last call was `hostOut` with this port and value. -/
def sawOut (s : State) (port : Word) (v : Byte) : Bool :=
  match s.hostLog with
  | .hostOut q w _ :: _ => q == port && w == v
  | _ => false

/-- The last call was `retiSignal`. -/
def sawReti (s : State) : Bool :=
  match s.hostLog with
  | .retiSignal _ :: _ => true
  | _ => false

/-- One flag with its value. -/
inductive FlagIs where
  | s (v : Bool)
  | z (v : Bool)
  | h (v : Bool)
  | pv (v : Bool)
  | n (v : Bool)
  | c (v : Bool)

/-- The flags listed have the values listed: the flags that are no draws. -/
def flagsAre (t : State) (l : List FlagIs) : Bool :=
  l.all fun i => match i with
    | .s v => t.cpu.main.f.s == v
    | .z v => t.cpu.main.f.z == v
    | .h v => t.cpu.main.f.h == v
    | .pv v => t.cpu.main.f.pv == v
    | .n v => t.cpu.main.f.n == v
    | .c v => t.cpu.main.f.c == v

/-! ### Ill-formed configurations: one for each check, which refuses it (R7, R94, R101, R112) -/

theorem test_reference_valid : Config.reference.valid = true := by decide

theorem test_one_block_refused : { Config.reference with ramBlockCount := 1 }.blocksOk = false := by decide

theorem test_above_max_blocks_refused : { Config.reference with ramBlockCount := 50 }.blocksOk = false := by decide

theorem test_ninth_slot_refused : { Config.reference with nSub := [1, 1, 1, 1, 1, 1, 1, 1, 1] }.slotsOk = false := by decide

theorem test_257_pages_refused : { Config.reference with nSub := [257] }.slotsOk = false := by decide

theorem test_block_out_of_range_refused : { Config.reference with ramBlockCount := 3 }.ramRangeOk = false := by decide

theorem test_quirk_refused : { Config.reference with ramTable := List.replicate 128 (some 0) }.quirkOk = false := by decide

theorem test_mirror_refused : { Config.reference with ramTable := List.replicate 128 (some 0) }.mirrorOk = false := by decide

theorem test_no_mirror_refused : { Config.reference with ramBlockCount := 2 }.mirrorOk = false := by decide

theorem test_base_refused : { Config.reference with ramTable := [] }.baseOk = false := by decide

theorem test_handler_on_banking_port_refused : { Config.reference with portMapOut := [0x00] }.portsOk = false := by decide

theorem test_patch_cost_refused : { Config.reference with patchCycles := 24 }.patchCyclesOk = false := by decide

theorem test_period_range : periodOk 22 = false ∧ periodOk 23 = true ∧ periodOk (2 ^ 30) = true ∧
    periodOk (2 ^ 30 + 1) = false := by decide

theorem test_configure_refuses : configure { Config.reference with ramBlockCount := 1 } 1000 [] [] [] = none := by decide

theorem test_configure_refuses_image : configure Config.reference 1000 [(1, 0xFF)] [] [] = none := by decide

theorem test_configure_refuses_slot_8 : configure Config.reference 1000 [] [(0x1000000, 0x00)] [] = none ∧
    (configure Config.reference 1000 [] [(0xE01FFF, 0x00)] []).isSome = true := by decide

theorem test_configure_refuses_absent_page : configure Config.reference 1000 [] [(0x402000, 0x00)] [] = none := by decide

theorem test_configure_refuses_monitor_byte : configure Config.reference 1000 [(0x2000, 0x00)] [] [] = none ∧
    (configure Config.reference 1000 [(0x1FFF, 0x00)] [] []).isSome = true := by decide

theorem test_configure_refuses_ram_byte : configure Config.reference 1000 [] [] [(0x10000, 0x00)] = none ∧
    (configure Config.reference 1000 [] [] [(0xFFFF, 0x00)]).isSome = true := by decide

/-! ### Every row's encoding, written from spec/opcode_table.json, decodes to its instruction and is what `encode` gives -/

/-- The bytes decode to the instruction, with the byte after them left over, and the instruction encodes to them. -/
def rowDecodes (p : List Byte × Instr) : Bool :=
  match decode (p.1 ++ [0xC7]) with
  | .ok (i, r) => decide (i = p.2) && decide (r = [0xC7]) && decide (encode p.2 = p.1)
  | .error _ => false

def allDecode (l : List (List Byte × Instr)) : Bool := l.all rowDecodes

theorem test_decode_rows_1 : allDecode
    [([0x00], .nop), ([0x01, 0x34, 0x12], .ldBcNn 0x1234), ([0x02], .ldMemBcA), ([0x03], .incBc), ([0x04], .incB),
      ([0x05], .decB), ([0x06, 0x5A], .ldBN 0x5A), ([0x07], .rlca), ([0x08], .exAfAfAlt), ([0x09], .addHlBc),
      ([0x0A], .ldAMemBc), ([0x0B], .decBc), ([0x0C], .incC), ([0x0D], .decC), ([0x0E, 0x5A], .ldCN 0x5A),
      ([0x0F], .rrca), ([0x10, 0xFB], .djnzE 0xFB), ([0x11, 0x34, 0x12], .ldDeNn 0x1234), ([0x12], .ldMemDeA),
      ([0x13], .incDe), ([0x14], .incD), ([0x15], .decD), ([0x16, 0x5A], .ldDN 0x5A), ([0x17], .rla),
      ([0x18, 0xFB], .jrE 0xFB), ([0x19], .addHlDe), ([0x1A], .ldAMemDe), ([0x1B], .decDe), ([0x1C], .incE),
      ([0x1D], .decE), ([0x1E, 0x5A], .ldEN 0x5A), ([0x1F], .rra), ([0x20, 0xFB], .jrNzE 0xFB),
      ([0x21, 0x34, 0x12], .ldHlNn 0x1234), ([0x22, 0x34, 0x12], .ldMemNnHl 0x1234), ([0x23], .incHl),
      ([0x24], .incH), ([0x25], .decH), ([0x26, 0x5A], .ldHN 0x5A), ([0x27], .daa), ([0x28, 0xFB], .jrZE 0xFB),
      ([0x29], .addHlHl), ([0x2A, 0x34, 0x12], .ldHlMemNn 0x1234), ([0x2B], .decHl), ([0x2C], .incL), ([0x2D], .decL),
      ([0x2E, 0x5A], .ldLN 0x5A), ([0x2F], .cpl), ([0x30, 0xFB], .jrNcE 0xFB), ([0x31, 0x34, 0x12], .ldSpNn 0x1234)] = true := by decide

theorem test_decode_rows_2 : allDecode
    [([0x32, 0x34, 0x12], .ldMemNnA 0x1234), ([0x33], .incSp), ([0x34], .incMemHl), ([0x35], .decMemHl),
      ([0x36, 0x5A], .ldMemHlN 0x5A), ([0x37], .scf), ([0x38, 0xFB], .jrCE 0xFB), ([0x39], .addHlSp),
      ([0x3A, 0x34, 0x12], .ldAMemNn 0x1234), ([0x3B], .decSp), ([0x3C], .incA), ([0x3D], .decA),
      ([0x3E, 0x5A], .ldAN 0x5A), ([0x3F], .ccf), ([0x40], .ldBB), ([0x41], .ldBC), ([0x42], .ldBD), ([0x43], .ldBE),
      ([0x44], .ldBH), ([0x45], .ldBL), ([0x46], .ldBMemHl), ([0x47], .ldBA), ([0x48], .ldCB), ([0x49], .ldCC),
      ([0x4A], .ldCD), ([0x4B], .ldCE), ([0x4C], .ldCH), ([0x4D], .ldCL), ([0x4E], .ldCMemHl), ([0x4F], .ldCA),
      ([0x50], .ldDB), ([0x51], .ldDC), ([0x52], .ldDD), ([0x53], .ldDE), ([0x54], .ldDH), ([0x55], .ldDL),
      ([0x56], .ldDMemHl), ([0x57], .ldDA), ([0x58], .ldEB), ([0x59], .ldEC), ([0x5A], .ldED), ([0x5B], .ldEE),
      ([0x5C], .ldEH), ([0x5D], .ldEL), ([0x5E], .ldEMemHl), ([0x5F], .ldEA), ([0x60], .ldHB), ([0x61], .ldHC),
      ([0x62], .ldHD), ([0x63], .ldHE)] = true := by decide

theorem test_decode_rows_3 : allDecode
    [([0x64], .ldHH), ([0x65], .ldHL), ([0x66], .ldHMemHl), ([0x67], .ldHA), ([0x68], .ldLB), ([0x69], .ldLC),
      ([0x6A], .ldLD), ([0x6B], .ldLE), ([0x6C], .ldLH), ([0x6D], .ldLL), ([0x6E], .ldLMemHl), ([0x6F], .ldLA),
      ([0x70], .ldMemHlB), ([0x71], .ldMemHlC), ([0x72], .ldMemHlD), ([0x73], .ldMemHlE), ([0x74], .ldMemHlH),
      ([0x75], .ldMemHlL), ([0x76], .halt), ([0x77], .ldMemHlA), ([0x78], .ldAB), ([0x79], .ldAC), ([0x7A], .ldAD),
      ([0x7B], .ldAE), ([0x7C], .ldAH), ([0x7D], .ldAL), ([0x7E], .ldAMemHl), ([0x7F], .ldAA), ([0x80], .addAB),
      ([0x81], .addAC), ([0x82], .addAD), ([0x83], .addAE), ([0x84], .addAH), ([0x85], .addAL), ([0x86], .addAMemHl),
      ([0x87], .addAA), ([0x88], .adcAB), ([0x89], .adcAC), ([0x8A], .adcAD), ([0x8B], .adcAE), ([0x8C], .adcAH),
      ([0x8D], .adcAL), ([0x8E], .adcAMemHl), ([0x8F], .adcAA), ([0x90], .subB), ([0x91], .subC), ([0x92], .subD),
      ([0x93], .subE), ([0x94], .subH), ([0x95], .subL)] = true := by decide

theorem test_decode_rows_4 : allDecode
    [([0x96], .subMemHl), ([0x97], .subA), ([0x98], .sbcAB), ([0x99], .sbcAC), ([0x9A], .sbcAD), ([0x9B], .sbcAE),
      ([0x9C], .sbcAH), ([0x9D], .sbcAL), ([0x9E], .sbcAMemHl), ([0x9F], .sbcAA), ([0xA0], .andB), ([0xA1], .andC),
      ([0xA2], .andD), ([0xA3], .andE), ([0xA4], .andH), ([0xA5], .andL), ([0xA6], .andMemHl), ([0xA7], .andA),
      ([0xA8], .xorB), ([0xA9], .xorC), ([0xAA], .xorD), ([0xAB], .xorE), ([0xAC], .xorH), ([0xAD], .xorL),
      ([0xAE], .xorMemHl), ([0xAF], .xorA), ([0xB0], .orB), ([0xB1], .orC), ([0xB2], .orD), ([0xB3], .orE),
      ([0xB4], .orH), ([0xB5], .orL), ([0xB6], .orMemHl), ([0xB7], .orA), ([0xB8], .cpB), ([0xB9], .cpC),
      ([0xBA], .cpD), ([0xBB], .cpE), ([0xBC], .cpH), ([0xBD], .cpL), ([0xBE], .cpMemHl), ([0xBF], .cpA),
      ([0xC0], .retNz), ([0xC1], .popBc), ([0xC2, 0x34, 0x12], .jpNzNn 0x1234), ([0xC3, 0x34, 0x12], .jpNn 0x1234),
      ([0xC4, 0x34, 0x12], .callNzNn 0x1234), ([0xC5], .pushBc), ([0xC6, 0x5A], .addAN 0x5A), ([0xC7], .rst00)] = true := by decide

theorem test_decode_rows_5 : allDecode
    [([0xC8], .retZ), ([0xC9], .ret), ([0xCA, 0x34, 0x12], .jpZNn 0x1234), ([0xCC, 0x34, 0x12], .callZNn 0x1234),
      ([0xCD, 0x34, 0x12], .callNn 0x1234), ([0xCE, 0x5A], .adcAN 0x5A), ([0xCF], .rst08), ([0xD0], .retNc),
      ([0xD1], .popDe), ([0xD2, 0x34, 0x12], .jpNcNn 0x1234), ([0xD3, 0x5A], .outPortNA 0x5A),
      ([0xD4, 0x34, 0x12], .callNcNn 0x1234), ([0xD5], .pushDe), ([0xD6, 0x5A], .subN 0x5A), ([0xD7], .rst10),
      ([0xD8], .retC), ([0xD9], .exx), ([0xDA, 0x34, 0x12], .jpCNn 0x1234), ([0xDB, 0x5A], .inAPortN 0x5A),
      ([0xDC, 0x34, 0x12], .callCNn 0x1234), ([0xDE, 0x5A], .sbcAN 0x5A), ([0xDF], .rst18), ([0xE0], .retPo),
      ([0xE1], .popHl), ([0xE2, 0x34, 0x12], .jpPoNn 0x1234), ([0xE3], .exMemSpHl),
      ([0xE4, 0x34, 0x12], .callPoNn 0x1234), ([0xE5], .pushHl), ([0xE6, 0x5A], .andN 0x5A), ([0xE7], .rst20),
      ([0xE8], .retPe), ([0xE9], .jpHl), ([0xEA, 0x34, 0x12], .jpPeNn 0x1234), ([0xEB], .exDeHl),
      ([0xEC, 0x34, 0x12], .callPeNn 0x1234), ([0xEE, 0x5A], .xorN 0x5A), ([0xEF], .rst28), ([0xF0], .retP),
      ([0xF1], .popAf), ([0xF2, 0x34, 0x12], .jpPNn 0x1234), ([0xF3], .di), ([0xF4, 0x34, 0x12], .callPNn 0x1234),
      ([0xF5], .pushAf), ([0xF6, 0x5A], .orN 0x5A), ([0xF7], .rst30), ([0xF8], .retM), ([0xF9], .ldSpHl),
      ([0xFA, 0x34, 0x12], .jpMNn 0x1234), ([0xFB], .ei), ([0xFC, 0x34, 0x12], .callMNn 0x1234)] = true := by decide

theorem test_decode_rows_6 : allDecode
    [([0xFE, 0x5A], .cpN 0x5A), ([0xFF], .rst38), ([0xCB, 0x00], .rlcB), ([0xCB, 0x01], .rlcC),
      ([0xCB, 0x02], .rlcD), ([0xCB, 0x03], .rlcE), ([0xCB, 0x04], .rlcH), ([0xCB, 0x05], .rlcL),
      ([0xCB, 0x06], .rlcMemHl), ([0xCB, 0x07], .rlcA), ([0xCB, 0x08], .rrcB), ([0xCB, 0x09], .rrcC),
      ([0xCB, 0x0A], .rrcD), ([0xCB, 0x0B], .rrcE), ([0xCB, 0x0C], .rrcH), ([0xCB, 0x0D], .rrcL),
      ([0xCB, 0x0E], .rrcMemHl), ([0xCB, 0x0F], .rrcA), ([0xCB, 0x10], .rlB), ([0xCB, 0x11], .rlC),
      ([0xCB, 0x12], .rlD), ([0xCB, 0x13], .rlE), ([0xCB, 0x14], .rlH), ([0xCB, 0x15], .rlL),
      ([0xCB, 0x16], .rlMemHl), ([0xCB, 0x17], .rlA), ([0xCB, 0x18], .rrB), ([0xCB, 0x19], .rrC),
      ([0xCB, 0x1A], .rrD), ([0xCB, 0x1B], .rrE), ([0xCB, 0x1C], .rrH), ([0xCB, 0x1D], .rrL),
      ([0xCB, 0x1E], .rrMemHl), ([0xCB, 0x1F], .rrA), ([0xCB, 0x20], .slaB), ([0xCB, 0x21], .slaC),
      ([0xCB, 0x22], .slaD), ([0xCB, 0x23], .slaE), ([0xCB, 0x24], .slaH), ([0xCB, 0x25], .slaL),
      ([0xCB, 0x26], .slaMemHl), ([0xCB, 0x27], .slaA), ([0xCB, 0x28], .sraB), ([0xCB, 0x29], .sraC),
      ([0xCB, 0x2A], .sraD), ([0xCB, 0x2B], .sraE), ([0xCB, 0x2C], .sraH), ([0xCB, 0x2D], .sraL),
      ([0xCB, 0x2E], .sraMemHl), ([0xCB, 0x2F], .sraA)] = true := by decide

theorem test_decode_rows_7 : allDecode
    [([0xCB, 0x38], .srlB), ([0xCB, 0x39], .srlC), ([0xCB, 0x3A], .srlD), ([0xCB, 0x3B], .srlE),
      ([0xCB, 0x3C], .srlH), ([0xCB, 0x3D], .srlL), ([0xCB, 0x3E], .srlMemHl), ([0xCB, 0x3F], .srlA),
      ([0xCB, 0x40], .bit0B), ([0xCB, 0x41], .bit0C), ([0xCB, 0x42], .bit0D), ([0xCB, 0x43], .bit0E),
      ([0xCB, 0x44], .bit0H), ([0xCB, 0x45], .bit0L), ([0xCB, 0x46], .bit0MemHl), ([0xCB, 0x47], .bit0A),
      ([0xCB, 0x48], .bit1B), ([0xCB, 0x49], .bit1C), ([0xCB, 0x4A], .bit1D), ([0xCB, 0x4B], .bit1E),
      ([0xCB, 0x4C], .bit1H), ([0xCB, 0x4D], .bit1L), ([0xCB, 0x4E], .bit1MemHl), ([0xCB, 0x4F], .bit1A),
      ([0xCB, 0x50], .bit2B), ([0xCB, 0x51], .bit2C), ([0xCB, 0x52], .bit2D), ([0xCB, 0x53], .bit2E),
      ([0xCB, 0x54], .bit2H), ([0xCB, 0x55], .bit2L), ([0xCB, 0x56], .bit2MemHl), ([0xCB, 0x57], .bit2A),
      ([0xCB, 0x58], .bit3B), ([0xCB, 0x59], .bit3C), ([0xCB, 0x5A], .bit3D), ([0xCB, 0x5B], .bit3E),
      ([0xCB, 0x5C], .bit3H), ([0xCB, 0x5D], .bit3L), ([0xCB, 0x5E], .bit3MemHl), ([0xCB, 0x5F], .bit3A),
      ([0xCB, 0x60], .bit4B), ([0xCB, 0x61], .bit4C), ([0xCB, 0x62], .bit4D), ([0xCB, 0x63], .bit4E),
      ([0xCB, 0x64], .bit4H), ([0xCB, 0x65], .bit4L), ([0xCB, 0x66], .bit4MemHl), ([0xCB, 0x67], .bit4A),
      ([0xCB, 0x68], .bit5B), ([0xCB, 0x69], .bit5C)] = true := by decide

theorem test_decode_rows_8 : allDecode
    [([0xCB, 0x6A], .bit5D), ([0xCB, 0x6B], .bit5E), ([0xCB, 0x6C], .bit5H), ([0xCB, 0x6D], .bit5L),
      ([0xCB, 0x6E], .bit5MemHl), ([0xCB, 0x6F], .bit5A), ([0xCB, 0x70], .bit6B), ([0xCB, 0x71], .bit6C),
      ([0xCB, 0x72], .bit6D), ([0xCB, 0x73], .bit6E), ([0xCB, 0x74], .bit6H), ([0xCB, 0x75], .bit6L),
      ([0xCB, 0x76], .bit6MemHl), ([0xCB, 0x77], .bit6A), ([0xCB, 0x78], .bit7B), ([0xCB, 0x79], .bit7C),
      ([0xCB, 0x7A], .bit7D), ([0xCB, 0x7B], .bit7E), ([0xCB, 0x7C], .bit7H), ([0xCB, 0x7D], .bit7L),
      ([0xCB, 0x7E], .bit7MemHl), ([0xCB, 0x7F], .bit7A), ([0xCB, 0x80], .res0B), ([0xCB, 0x81], .res0C),
      ([0xCB, 0x82], .res0D), ([0xCB, 0x83], .res0E), ([0xCB, 0x84], .res0H), ([0xCB, 0x85], .res0L),
      ([0xCB, 0x86], .res0MemHl), ([0xCB, 0x87], .res0A), ([0xCB, 0x88], .res1B), ([0xCB, 0x89], .res1C),
      ([0xCB, 0x8A], .res1D), ([0xCB, 0x8B], .res1E), ([0xCB, 0x8C], .res1H), ([0xCB, 0x8D], .res1L),
      ([0xCB, 0x8E], .res1MemHl), ([0xCB, 0x8F], .res1A), ([0xCB, 0x90], .res2B), ([0xCB, 0x91], .res2C),
      ([0xCB, 0x92], .res2D), ([0xCB, 0x93], .res2E), ([0xCB, 0x94], .res2H), ([0xCB, 0x95], .res2L),
      ([0xCB, 0x96], .res2MemHl), ([0xCB, 0x97], .res2A), ([0xCB, 0x98], .res3B), ([0xCB, 0x99], .res3C),
      ([0xCB, 0x9A], .res3D), ([0xCB, 0x9B], .res3E)] = true := by decide

theorem test_decode_rows_9 : allDecode
    [([0xCB, 0x9C], .res3H), ([0xCB, 0x9D], .res3L), ([0xCB, 0x9E], .res3MemHl), ([0xCB, 0x9F], .res3A),
      ([0xCB, 0xA0], .res4B), ([0xCB, 0xA1], .res4C), ([0xCB, 0xA2], .res4D), ([0xCB, 0xA3], .res4E),
      ([0xCB, 0xA4], .res4H), ([0xCB, 0xA5], .res4L), ([0xCB, 0xA6], .res4MemHl), ([0xCB, 0xA7], .res4A),
      ([0xCB, 0xA8], .res5B), ([0xCB, 0xA9], .res5C), ([0xCB, 0xAA], .res5D), ([0xCB, 0xAB], .res5E),
      ([0xCB, 0xAC], .res5H), ([0xCB, 0xAD], .res5L), ([0xCB, 0xAE], .res5MemHl), ([0xCB, 0xAF], .res5A),
      ([0xCB, 0xB0], .res6B), ([0xCB, 0xB1], .res6C), ([0xCB, 0xB2], .res6D), ([0xCB, 0xB3], .res6E),
      ([0xCB, 0xB4], .res6H), ([0xCB, 0xB5], .res6L), ([0xCB, 0xB6], .res6MemHl), ([0xCB, 0xB7], .res6A),
      ([0xCB, 0xB8], .res7B), ([0xCB, 0xB9], .res7C), ([0xCB, 0xBA], .res7D), ([0xCB, 0xBB], .res7E),
      ([0xCB, 0xBC], .res7H), ([0xCB, 0xBD], .res7L), ([0xCB, 0xBE], .res7MemHl), ([0xCB, 0xBF], .res7A),
      ([0xCB, 0xC0], .set0B), ([0xCB, 0xC1], .set0C), ([0xCB, 0xC2], .set0D), ([0xCB, 0xC3], .set0E),
      ([0xCB, 0xC4], .set0H), ([0xCB, 0xC5], .set0L), ([0xCB, 0xC6], .set0MemHl), ([0xCB, 0xC7], .set0A),
      ([0xCB, 0xC8], .set1B), ([0xCB, 0xC9], .set1C), ([0xCB, 0xCA], .set1D), ([0xCB, 0xCB], .set1E),
      ([0xCB, 0xCC], .set1H), ([0xCB, 0xCD], .set1L)] = true := by decide

theorem test_decode_rows_10 : allDecode
    [([0xCB, 0xCE], .set1MemHl), ([0xCB, 0xCF], .set1A), ([0xCB, 0xD0], .set2B), ([0xCB, 0xD1], .set2C),
      ([0xCB, 0xD2], .set2D), ([0xCB, 0xD3], .set2E), ([0xCB, 0xD4], .set2H), ([0xCB, 0xD5], .set2L),
      ([0xCB, 0xD6], .set2MemHl), ([0xCB, 0xD7], .set2A), ([0xCB, 0xD8], .set3B), ([0xCB, 0xD9], .set3C),
      ([0xCB, 0xDA], .set3D), ([0xCB, 0xDB], .set3E), ([0xCB, 0xDC], .set3H), ([0xCB, 0xDD], .set3L),
      ([0xCB, 0xDE], .set3MemHl), ([0xCB, 0xDF], .set3A), ([0xCB, 0xE0], .set4B), ([0xCB, 0xE1], .set4C),
      ([0xCB, 0xE2], .set4D), ([0xCB, 0xE3], .set4E), ([0xCB, 0xE4], .set4H), ([0xCB, 0xE5], .set4L),
      ([0xCB, 0xE6], .set4MemHl), ([0xCB, 0xE7], .set4A), ([0xCB, 0xE8], .set5B), ([0xCB, 0xE9], .set5C),
      ([0xCB, 0xEA], .set5D), ([0xCB, 0xEB], .set5E), ([0xCB, 0xEC], .set5H), ([0xCB, 0xED], .set5L),
      ([0xCB, 0xEE], .set5MemHl), ([0xCB, 0xEF], .set5A), ([0xCB, 0xF0], .set6B), ([0xCB, 0xF1], .set6C),
      ([0xCB, 0xF2], .set6D), ([0xCB, 0xF3], .set6E), ([0xCB, 0xF4], .set6H), ([0xCB, 0xF5], .set6L),
      ([0xCB, 0xF6], .set6MemHl), ([0xCB, 0xF7], .set6A), ([0xCB, 0xF8], .set7B), ([0xCB, 0xF9], .set7C),
      ([0xCB, 0xFA], .set7D), ([0xCB, 0xFB], .set7E), ([0xCB, 0xFC], .set7H), ([0xCB, 0xFD], .set7L),
      ([0xCB, 0xFE], .set7MemHl), ([0xCB, 0xFF], .set7A)] = true := by decide

theorem test_decode_rows_11 : allDecode
    [([0xED, 0x40], .inBPortC), ([0xED, 0x41], .outPortCB), ([0xED, 0x42], .sbcHlBc),
      ([0xED, 0x43, 0x34, 0x12], .ldMemNnBc 0x1234), ([0xED, 0x44], .neg), ([0xED, 0x45], .retn),
      ([0xED, 0x46], .im0), ([0xED, 0x47], .ldIA), ([0xED, 0x48], .inCPortC), ([0xED, 0x49], .outPortCC),
      ([0xED, 0x4A], .adcHlBc), ([0xED, 0x4B, 0x34, 0x12], .ldBcMemNn 0x1234), ([0xED, 0x4D], .reti),
      ([0xED, 0x4F], .ldRA), ([0xED, 0x50], .inDPortC), ([0xED, 0x51], .outPortCD), ([0xED, 0x52], .sbcHlDe),
      ([0xED, 0x53, 0x34, 0x12], .ldMemNnDe 0x1234), ([0xED, 0x56], .im1), ([0xED, 0x57], .ldAI),
      ([0xED, 0x58], .inEPortC), ([0xED, 0x59], .outPortCE), ([0xED, 0x5A], .adcHlDe),
      ([0xED, 0x5B, 0x34, 0x12], .ldDeMemNn 0x1234), ([0xED, 0x5E], .im2), ([0xED, 0x5F], .ldAR),
      ([0xED, 0x60], .inHPortC), ([0xED, 0x61], .outPortCH), ([0xED, 0x62], .sbcHlHl),
      ([0xED, 0x63, 0x34, 0x12], .ldMemNnHlEd 0x1234), ([0xED, 0x67], .rrd), ([0xED, 0x68], .inLPortC),
      ([0xED, 0x69], .outPortCL), ([0xED, 0x6A], .adcHlHl), ([0xED, 0x6B, 0x34, 0x12], .ldHlMemNnEd 0x1234),
      ([0xED, 0x6F], .rld), ([0xED, 0x72], .sbcHlSp), ([0xED, 0x73, 0x34, 0x12], .ldMemNnSp 0x1234),
      ([0xED, 0x78], .inAPortC), ([0xED, 0x79], .outPortCA), ([0xED, 0x7A], .adcHlSp),
      ([0xED, 0x7B, 0x34, 0x12], .ldSpMemNn 0x1234), ([0xED, 0xA0], .ldi), ([0xED, 0xA1], .cpi), ([0xED, 0xA2], .ini),
      ([0xED, 0xA3], .outi), ([0xED, 0xA8], .ldd), ([0xED, 0xA9], .cpd), ([0xED, 0xAA], .ind), ([0xED, 0xAB], .outd)] = true := by decide

theorem test_decode_rows_12 : allDecode
    [([0xED, 0xB0], .ldir), ([0xED, 0xB1], .cpir), ([0xED, 0xB2], .inir), ([0xED, 0xB3], .otir),
      ([0xED, 0xB8], .lddr), ([0xED, 0xB9], .cpdr), ([0xED, 0xBA], .indr), ([0xED, 0xBB], .otdr),
      ([0xED, 0xFE], .patch), ([0xDD, 0x09], .addIxBc), ([0xDD, 0x19], .addIxDe),
      ([0xDD, 0x21, 0x34, 0x12], .ldIxNn 0x1234), ([0xDD, 0x22, 0x34, 0x12], .ldMemNnIx 0x1234),
      ([0xDD, 0x23], .incIx), ([0xDD, 0x29], .addIxIx), ([0xDD, 0x2A, 0x34, 0x12], .ldIxMemNn 0x1234),
      ([0xDD, 0x2B], .decIx), ([0xDD, 0x34, 0x85], .incMemIxd 0x85), ([0xDD, 0x35, 0x85], .decMemIxd 0x85),
      ([0xDD, 0x36, 0x85, 0x5A], .ldMemIxdN 0x85 0x5A), ([0xDD, 0x39], .addIxSp),
      ([0xDD, 0x46, 0x85], .ldBMemIxd 0x85), ([0xDD, 0x4E, 0x85], .ldCMemIxd 0x85),
      ([0xDD, 0x56, 0x85], .ldDMemIxd 0x85), ([0xDD, 0x5E, 0x85], .ldEMemIxd 0x85),
      ([0xDD, 0x66, 0x85], .ldHMemIxd 0x85), ([0xDD, 0x6E, 0x85], .ldLMemIxd 0x85),
      ([0xDD, 0x70, 0x85], .ldMemIxdB 0x85), ([0xDD, 0x71, 0x85], .ldMemIxdC 0x85),
      ([0xDD, 0x72, 0x85], .ldMemIxdD 0x85), ([0xDD, 0x73, 0x85], .ldMemIxdE 0x85),
      ([0xDD, 0x74, 0x85], .ldMemIxdH 0x85), ([0xDD, 0x75, 0x85], .ldMemIxdL 0x85),
      ([0xDD, 0x77, 0x85], .ldMemIxdA 0x85), ([0xDD, 0x7E, 0x85], .ldAMemIxd 0x85),
      ([0xDD, 0x86, 0x85], .addAMemIxd 0x85), ([0xDD, 0x8E, 0x85], .adcAMemIxd 0x85),
      ([0xDD, 0x96, 0x85], .subMemIxd 0x85), ([0xDD, 0x9E, 0x85], .sbcAMemIxd 0x85),
      ([0xDD, 0xA6, 0x85], .andMemIxd 0x85), ([0xDD, 0xAE, 0x85], .xorMemIxd 0x85),
      ([0xDD, 0xB6, 0x85], .orMemIxd 0x85), ([0xDD, 0xBE, 0x85], .cpMemIxd 0x85), ([0xDD, 0xE1], .popIx),
      ([0xDD, 0xE3], .exMemSpIx), ([0xDD, 0xE5], .pushIx), ([0xDD, 0xE9], .jpIx), ([0xDD, 0xF9], .ldSpIx),
      ([0xFD, 0x09], .addIyBc), ([0xFD, 0x19], .addIyDe)] = true := by decide

theorem test_decode_rows_13 : allDecode
    [([0xFD, 0x21, 0x34, 0x12], .ldIyNn 0x1234), ([0xFD, 0x22, 0x34, 0x12], .ldMemNnIy 0x1234),
      ([0xFD, 0x23], .incIy), ([0xFD, 0x29], .addIyIy), ([0xFD, 0x2A, 0x34, 0x12], .ldIyMemNn 0x1234),
      ([0xFD, 0x2B], .decIy), ([0xFD, 0x34, 0x85], .incMemIyd 0x85), ([0xFD, 0x35, 0x85], .decMemIyd 0x85),
      ([0xFD, 0x36, 0x85, 0x5A], .ldMemIydN 0x85 0x5A), ([0xFD, 0x39], .addIySp),
      ([0xFD, 0x46, 0x85], .ldBMemIyd 0x85), ([0xFD, 0x4E, 0x85], .ldCMemIyd 0x85),
      ([0xFD, 0x56, 0x85], .ldDMemIyd 0x85), ([0xFD, 0x5E, 0x85], .ldEMemIyd 0x85),
      ([0xFD, 0x66, 0x85], .ldHMemIyd 0x85), ([0xFD, 0x6E, 0x85], .ldLMemIyd 0x85),
      ([0xFD, 0x70, 0x85], .ldMemIydB 0x85), ([0xFD, 0x71, 0x85], .ldMemIydC 0x85),
      ([0xFD, 0x72, 0x85], .ldMemIydD 0x85), ([0xFD, 0x73, 0x85], .ldMemIydE 0x85),
      ([0xFD, 0x74, 0x85], .ldMemIydH 0x85), ([0xFD, 0x75, 0x85], .ldMemIydL 0x85),
      ([0xFD, 0x77, 0x85], .ldMemIydA 0x85), ([0xFD, 0x7E, 0x85], .ldAMemIyd 0x85),
      ([0xFD, 0x86, 0x85], .addAMemIyd 0x85), ([0xFD, 0x8E, 0x85], .adcAMemIyd 0x85),
      ([0xFD, 0x96, 0x85], .subMemIyd 0x85), ([0xFD, 0x9E, 0x85], .sbcAMemIyd 0x85),
      ([0xFD, 0xA6, 0x85], .andMemIyd 0x85), ([0xFD, 0xAE, 0x85], .xorMemIyd 0x85),
      ([0xFD, 0xB6, 0x85], .orMemIyd 0x85), ([0xFD, 0xBE, 0x85], .cpMemIyd 0x85), ([0xFD, 0xE1], .popIy),
      ([0xFD, 0xE3], .exMemSpIy), ([0xFD, 0xE5], .pushIy), ([0xFD, 0xE9], .jpIy), ([0xFD, 0xF9], .ldSpIy),
      ([0xDD, 0xCB, 0x85, 0x06], .rlcMemIxd 0x85), ([0xDD, 0xCB, 0x85, 0x0E], .rrcMemIxd 0x85),
      ([0xDD, 0xCB, 0x85, 0x16], .rlMemIxd 0x85), ([0xDD, 0xCB, 0x85, 0x1E], .rrMemIxd 0x85),
      ([0xDD, 0xCB, 0x85, 0x26], .slaMemIxd 0x85), ([0xDD, 0xCB, 0x85, 0x2E], .sraMemIxd 0x85),
      ([0xDD, 0xCB, 0x85, 0x3E], .srlMemIxd 0x85), ([0xDD, 0xCB, 0x85, 0x46], .bit0MemIxd 0x85),
      ([0xDD, 0xCB, 0x85, 0x4E], .bit1MemIxd 0x85), ([0xDD, 0xCB, 0x85, 0x56], .bit2MemIxd 0x85),
      ([0xDD, 0xCB, 0x85, 0x5E], .bit3MemIxd 0x85), ([0xDD, 0xCB, 0x85, 0x66], .bit4MemIxd 0x85),
      ([0xDD, 0xCB, 0x85, 0x6E], .bit5MemIxd 0x85)] = true := by decide

theorem test_decode_rows_14 : allDecode
    [([0xDD, 0xCB, 0x85, 0x76], .bit6MemIxd 0x85), ([0xDD, 0xCB, 0x85, 0x7E], .bit7MemIxd 0x85),
      ([0xDD, 0xCB, 0x85, 0x86], .res0MemIxd 0x85), ([0xDD, 0xCB, 0x85, 0x8E], .res1MemIxd 0x85),
      ([0xDD, 0xCB, 0x85, 0x96], .res2MemIxd 0x85), ([0xDD, 0xCB, 0x85, 0x9E], .res3MemIxd 0x85),
      ([0xDD, 0xCB, 0x85, 0xA6], .res4MemIxd 0x85), ([0xDD, 0xCB, 0x85, 0xAE], .res5MemIxd 0x85),
      ([0xDD, 0xCB, 0x85, 0xB6], .res6MemIxd 0x85), ([0xDD, 0xCB, 0x85, 0xBE], .res7MemIxd 0x85),
      ([0xDD, 0xCB, 0x85, 0xC6], .set0MemIxd 0x85), ([0xDD, 0xCB, 0x85, 0xCE], .set1MemIxd 0x85),
      ([0xDD, 0xCB, 0x85, 0xD6], .set2MemIxd 0x85), ([0xDD, 0xCB, 0x85, 0xDE], .set3MemIxd 0x85),
      ([0xDD, 0xCB, 0x85, 0xE6], .set4MemIxd 0x85), ([0xDD, 0xCB, 0x85, 0xEE], .set5MemIxd 0x85),
      ([0xDD, 0xCB, 0x85, 0xF6], .set6MemIxd 0x85), ([0xDD, 0xCB, 0x85, 0xFE], .set7MemIxd 0x85),
      ([0xFD, 0xCB, 0x85, 0x06], .rlcMemIyd 0x85), ([0xFD, 0xCB, 0x85, 0x0E], .rrcMemIyd 0x85),
      ([0xFD, 0xCB, 0x85, 0x16], .rlMemIyd 0x85), ([0xFD, 0xCB, 0x85, 0x1E], .rrMemIyd 0x85),
      ([0xFD, 0xCB, 0x85, 0x26], .slaMemIyd 0x85), ([0xFD, 0xCB, 0x85, 0x2E], .sraMemIyd 0x85),
      ([0xFD, 0xCB, 0x85, 0x3E], .srlMemIyd 0x85), ([0xFD, 0xCB, 0x85, 0x46], .bit0MemIyd 0x85),
      ([0xFD, 0xCB, 0x85, 0x4E], .bit1MemIyd 0x85), ([0xFD, 0xCB, 0x85, 0x56], .bit2MemIyd 0x85),
      ([0xFD, 0xCB, 0x85, 0x5E], .bit3MemIyd 0x85), ([0xFD, 0xCB, 0x85, 0x66], .bit4MemIyd 0x85),
      ([0xFD, 0xCB, 0x85, 0x6E], .bit5MemIyd 0x85), ([0xFD, 0xCB, 0x85, 0x76], .bit6MemIyd 0x85),
      ([0xFD, 0xCB, 0x85, 0x7E], .bit7MemIyd 0x85), ([0xFD, 0xCB, 0x85, 0x86], .res0MemIyd 0x85),
      ([0xFD, 0xCB, 0x85, 0x8E], .res1MemIyd 0x85), ([0xFD, 0xCB, 0x85, 0x96], .res2MemIyd 0x85),
      ([0xFD, 0xCB, 0x85, 0x9E], .res3MemIyd 0x85), ([0xFD, 0xCB, 0x85, 0xA6], .res4MemIyd 0x85),
      ([0xFD, 0xCB, 0x85, 0xAE], .res5MemIyd 0x85), ([0xFD, 0xCB, 0x85, 0xB6], .res6MemIyd 0x85),
      ([0xFD, 0xCB, 0x85, 0xBE], .res7MemIyd 0x85), ([0xFD, 0xCB, 0x85, 0xC6], .set0MemIyd 0x85),
      ([0xFD, 0xCB, 0x85, 0xCE], .set1MemIyd 0x85), ([0xFD, 0xCB, 0x85, 0xD6], .set2MemIyd 0x85),
      ([0xFD, 0xCB, 0x85, 0xDE], .set3MemIyd 0x85), ([0xFD, 0xCB, 0x85, 0xE6], .set4MemIyd 0x85),
      ([0xFD, 0xCB, 0x85, 0xEE], .set5MemIyd 0x85), ([0xFD, 0xCB, 0x85, 0xF6], .set6MemIyd 0x85),
      ([0xFD, 0xCB, 0x85, 0xFE], .set7MemIyd 0x85)] = true := by decide

/-! ### Single steps (95_test_vectors.md, sections 2.1 and 2.3) -/

/-- V40-1: `41` (R200). -/
theorem test_v40_1 : stepped
    { lab with cpu := { lab.cpu with main := { lab.cpu.main with c := 0x5A } } }
    [0x41] []
   (fun t => t.cpu.main.b = 0x5A ∧ t.cpu.pc = 0x8001 ∧ t.iElapsed = 4) = true := by decide

/-- V40-2: `3E 42` (R201). -/
theorem test_v40_2 : stepped lab [0x3E, 0x42] []
   (fun t => t.cpu.main.a = 0x42 ∧ t.cpu.pc = 0x8002 ∧ t.iElapsed = 7) = true := by decide

/-- V40-3: `7E` (R202). -/
theorem test_v40_3 : stepped
    { lab with cpu := { lab.cpu with main := { lab.cpu.main with h := 0xC0, l := 0x00 } } }
    [0x7E] [(0xC000, [0x99])]
   (fun t => t.cpu.main.a = 0x99 ∧ t.cpu.pc = 0x8001 ∧ t.iElapsed = 7) = true := by decide

/-- V40-4: `DD 7E FE` (R203; negative d). -/
theorem test_v40_4 : stepped
    { lab with cpu := { lab.cpu with ix := 0xC002 } }
    [0xDD, 0x7E, 0xFE] [(0xC000, [0x99])]
   (fun t => t.cpu.main.a = 0x99 ∧ t.cpu.pc = 0x8003 ∧ t.iElapsed = 19) = true := by decide

/-- V40-5: `DD 66 01` (R203; H names H, not IXH). -/
theorem test_v40_5 : stepped
    { lab with cpu := { lab.cpu with main := { lab.cpu.main with h := 0x11 }, ix := 0xC000 } }
    [0xDD, 0x66, 0x01] [(0xC001, [0x77])]
   (fun t => t.cpu.main.h = 0x77 ∧ t.cpu.pc = 0x8003 ∧ t.iElapsed = 19) = true := by decide

/-- V40-6: `FD 46 7F` (R204; largest d). -/
theorem test_v40_6 : stepped
    { lab with cpu := { lab.cpu with iy := 0xC000 } }
    [0xFD, 0x46, 0x7F] [(0xC07F, [0x3C])]
   (fun t => t.cpu.main.b = 0x3C ∧ t.cpu.pc = 0x8003 ∧ t.iElapsed = 19) = true := by decide

/-- V40-7: `77` (R205). -/
theorem test_v40_7 : stepped
    { lab with cpu := { lab.cpu with main := { lab.cpu.main with h := 0xC0, l := 0x00, a := 0x12 } } }
    [0x77] []
   (fun t => t.cpu.pc = 0x8001 ∧ t.readByte 0xC000 = 0x12 ∧ t.iElapsed = 7) = true := by decide

/-- V40-8: `DD 70 80` (R206; d = -128). -/
theorem test_v40_8 : stepped
    { lab with cpu := { lab.cpu with main := { lab.cpu.main with b := 0x5E }, ix := 0xC080 } }
    [0xDD, 0x70, 0x80] []
   (fun t => t.cpu.pc = 0x8003 ∧ t.readByte 0xC000 = 0x5E ∧ t.iElapsed = 19) = true := by decide

/-- V40-9: `36 A5` (R208). -/
theorem test_v40_9 : stepped
    { lab with cpu := { lab.cpu with main := { lab.cpu.main with h := 0xC0, l := 0x00 } } }
    [0x36, 0xA5] []
   (fun t => t.cpu.pc = 0x8002 ∧ t.readByte 0xC000 = 0xA5 ∧ t.iElapsed = 10) = true := by decide

/-- V40-10: `FD 36 05 AB` (R210). -/
theorem test_v40_10 : stepped
    { lab with cpu := { lab.cpu with iy := 0xC000 } }
    [0xFD, 0x36, 0x05, 0xAB] []
   (fun t => t.cpu.pc = 0x8004 ∧ t.readByte 0xC005 = 0xAB ∧ t.iElapsed = 19) = true := by decide

/-- V40-11: `0A` (R211). -/
theorem test_v40_11 : stepped
    { lab with cpu := { lab.cpu with main := { lab.cpu.main with b := 0xC0, c := 0x00 } } }
    [0x0A] [(0xC000, [0x44])]
   (fun t => t.cpu.main.a = 0x44 ∧ t.cpu.pc = 0x8001 ∧ t.iElapsed = 7) = true := by decide

/-- V40-12: `3A 00 C0` (R213). -/
theorem test_v40_12 : stepped lab [0x3A, 0x00, 0xC0] [(0xC000, [0x77])]
   (fun t => t.cpu.main.a = 0x77 ∧ t.cpu.pc = 0x8003 ∧ t.iElapsed = 13) = true := by decide

/-- V40-13: `32 34 C2` (R216). -/
theorem test_v40_13 : stepped
    { lab with cpu := { lab.cpu with main := { lab.cpu.main with a := 0xEE } } }
    [0x32, 0x34, 0xC2] []
   (fun t => t.cpu.pc = 0x8003 ∧ t.readByte 0xC234 = 0xEE ∧ t.iElapsed = 13) = true := by decide

/-- V40-14: `ED 57` (R217; C kept; PV = IFF2). -/
theorem test_v40_14 : stepped
    { lab with
      cpu := { lab.cpu with
        main := { lab.cpu.main with f := Flags.ofByte 0x01 }
        i := 0x00
        iff2 := true } }
    [0xED, 0x57] []
   (fun t => flagsAre t [.s false, .z true, .h false, .pv true, .n false, .c true] ∧ t.cpu.pc = 0x8002 ∧ t.iElapsed =
      9) = true := by decide

/-- V40-15: `ED 47` (R219). -/
theorem test_v40_15 : stepped
    { lab with cpu := { lab.cpu with main := { lab.cpu.main with a := 0xFE } } }
    [0xED, 0x47] []
   (fun t => t.cpu.pc = 0x8002 ∧ t.cpu.i = 0xFE ∧ t.iElapsed = 9) = true := by decide

/-- V40-16: `ED 4F` (R220). -/
theorem test_v40_16 : stepped
    { lab with cpu := { lab.cpu with main := { lab.cpu.main with a := 0x80 } } }
    [0xED, 0x4F] []
   (fun t => t.cpu.pc = 0x8002 ∧ t.cpu.r7 = true ∧ t.iElapsed = 9) = true := by decide

/-- V41-1: `01 34 12` (R230). -/
theorem test_v41_1 : stepped lab [0x01, 0x34, 0x12] []
   (fun t => t.cpu.main.b = 0x12 ∧ t.cpu.main.c = 0x34 ∧ t.cpu.pc = 0x8003 ∧ t.iElapsed = 10) = true := by decide

/-- V41-2: `DD 21 CD AB` (R231). -/
theorem test_v41_2 : stepped lab [0xDD, 0x21, 0xCD, 0xAB] []
   (fun t => t.cpu.ix = 0xABCD ∧ t.cpu.pc = 0x8004 ∧ t.iElapsed = 14) = true := by decide

/-- V41-3: `2A 00 C0` (R233). -/
theorem test_v41_3 : stepped lab [0x2A, 0x00, 0xC0] [(0xC000, [0x34, 0x12])]
   (fun t => t.cpu.main.h = 0x12 ∧ t.cpu.main.l = 0x34 ∧ t.cpu.pc = 0x8003 ∧ t.iElapsed = 16) = true := by decide

/-- V41-4: `ED 6B 00 C0` (R234; ED form of V41-3: same effect, 20 cycles). -/
theorem test_v41_4 : stepped lab [0xED, 0x6B, 0x00, 0xC0] [(0xC000, [0x34, 0x12])]
   (fun t => t.cpu.main.h = 0x12 ∧ t.cpu.main.l = 0x34 ∧ t.cpu.pc = 0x8004 ∧ t.iElapsed = 20) = true := by decide

/-- V41-5: `22 FF FF` (R237; wraps: high byte at 0x0000). -/
theorem test_v41_5 : stepped
    { lab with cpu := { lab.cpu with main := { lab.cpu.main with h := 0x12, l := 0x34 } } }
    [0x22, 0xFF, 0xFF] []
   (fun t => t.cpu.pc = 0x8003 ∧ t.readByte 0xFFFF = 0x34 ∧ t.readByte 0x0000 = 0x12 ∧ t.iElapsed = 16) = true := by
      decide

/-- V41-6: `ED 73 00 C0` (R238). -/
theorem test_v41_6 : stepped
    { lab with cpu := { lab.cpu with sp := 0xFFF0 } }
    [0xED, 0x73, 0x00, 0xC0] []
   (fun t => t.cpu.pc = 0x8004 ∧ t.readByte 0xC000 = 0xF0 ∧ t.readByte 0xC001 = 0xFF ∧ t.iElapsed = 20) = true := by
      decide

/-- V41-7: `FD 22 10 C0` (R240). -/
theorem test_v41_7 : stepped
    { lab with cpu := { lab.cpu with iy := 0xBEEF } }
    [0xFD, 0x22, 0x10, 0xC0] []
   (fun t => t.cpu.pc = 0x8004 ∧ t.readByte 0xC010 = 0xEF ∧ t.readByte 0xC011 = 0xBE ∧ t.iElapsed = 20) = true := by
      decide

/-- V41-8: `F9` (R241). -/
theorem test_v41_8 : stepped
    { lab with cpu := { lab.cpu with main := { lab.cpu.main with h := 0xD0, l := 0x00 } } }
    [0xF9] []
   (fun t => t.cpu.sp = 0xD000 ∧ t.cpu.pc = 0x8001 ∧ t.iElapsed = 6) = true := by decide

/-- V41-9: `C5` (R244; SP wraps). -/
theorem test_v41_9 : stepped
    { lab with cpu := { lab.cpu with main := { lab.cpu.main with b := 0xAB, c := 0xCD }, sp := 0x0000 } }
    [0xC5] []
   (fun t => t.cpu.sp = 0xFFFE ∧ t.cpu.pc = 0x8001 ∧ t.readByte 0xFFFF = 0xAB ∧ t.readByte 0xFFFE = 0xCD ∧ t.iElapsed
      = 11) = true := by decide

/-- V41-10: `F5` (R244; all 8 F bits pushed). -/
theorem test_v41_10 : stepped
    { lab with
      cpu := { lab.cpu with
        main := { lab.cpu.main with a := 0x12, f := Flags.ofByte 0xD7 }
        sp := 0xD000 } }
    [0xF5] []
   (fun t => t.cpu.sp = 0xCFFE ∧ t.cpu.pc = 0x8001 ∧ t.readByte 0xCFFF = 0x12 ∧ t.readByte 0xCFFE = 0xD7 ∧ t.iElapsed
      = 11) = true := by decide

/-- V41-11: `F1` (R247; POP AF sets every F bit exactly). -/
theorem test_v41_11 : stepped
    { lab with cpu := { lab.cpu with sp := 0xCFFE } }
    [0xF1] [(0xCFFE, [0xFF, 0x80])]
   (fun t => t.cpu.main.a = 0x80 ∧ t.cpu.main.f.toByte = 0xFF ∧ t.cpu.sp = 0xD000 ∧ t.cpu.pc = 0x8001 ∧ t.iElapsed =
      10) = true := by decide

/-- V41-12: `DD E5` (R245). -/
theorem test_v41_12 : stepped
    { lab with cpu := { lab.cpu with ix := 0x1234, sp := 0xD000 } }
    [0xDD, 0xE5] []
   (fun t => t.cpu.sp = 0xCFFE ∧ t.cpu.pc = 0x8002 ∧ t.readByte 0xCFFF = 0x12 ∧ t.readByte 0xCFFE = 0x34 ∧ t.iElapsed
      = 15) = true := by decide

/-- V41-13: `FD E1` (R249; pop across 0xFFFF). -/
theorem test_v41_13 : stepped
    { lab with cpu := { lab.cpu with sp := 0xFFFF } }
    [0xFD, 0xE1] [(0xFFFF, [0x34]), (0x0000, [0x12])]
   (fun t => t.cpu.iy = 0x1234 ∧ t.cpu.sp = 0x0001 ∧ t.cpu.pc = 0x8002 ∧ t.iElapsed = 14) = true := by decide

/-- V42-1: `EB` (R260). -/
theorem test_v42_1 : stepped
    { lab with
      cpu := { lab.cpu with
        main := { lab.cpu.main with d := 0x11, e := 0x11, h := 0x22, l := 0x22 } } }
    [0xEB] []
   (fun t => t.cpu.main.d = 0x22 ∧ t.cpu.main.e = 0x22 ∧ t.cpu.main.h = 0x11 ∧ t.cpu.main.l = 0x11 ∧ t.cpu.pc = 0x8001
      ∧ t.iElapsed = 4) = true := by decide

/-- V42-2: `08` (R261). -/
theorem test_v42_2 : stepped
    { lab with
      cpu := { lab.cpu with
        main := { lab.cpu.main with a := 0x12, f := Flags.ofByte 0x34 }
        shadow := { lab.cpu.shadow with a := 0x56, f := Flags.ofByte 0x78 } } }
    [0x08] []
   (fun t => t.cpu.main.a = 0x56 ∧ t.cpu.main.f.toByte = 0x78 ∧ t.cpu.shadow.a = 0x12 ∧ t.cpu.shadow.f.toByte = 0x34 ∧
      t.cpu.pc = 0x8001 ∧ t.iElapsed = 4) = true := by decide

/-- V42-3: `D9` (R262). -/
theorem test_v42_3 : stepped
    { lab with
      cpu := { lab.cpu with
        main := { lab.cpu.main with b := 0x01, c := 0x02, d := 0x03, e := 0x04, h := 0x05, l := 0x06 }
        shadow := { lab.cpu.shadow with b := 0xA1, c := 0xA2, d := 0xA3, e := 0xA4, h := 0xA5, l := 0xA6 } } }
    [0xD9] []
   (fun t => t.cpu.main.b = 0xA1 ∧ t.cpu.main.c = 0xA2 ∧ t.cpu.main.d = 0xA3 ∧ t.cpu.main.e = 0xA4 ∧ t.cpu.main.h =
      0xA5 ∧ t.cpu.main.l = 0xA6 ∧ t.cpu.shadow.b = 0x01 ∧ t.cpu.shadow.c = 0x02 ∧ t.cpu.shadow.d = 0x03 ∧
      t.cpu.shadow.e = 0x04 ∧ t.cpu.shadow.h = 0x05 ∧ t.cpu.shadow.l = 0x06 ∧ t.cpu.pc = 0x8001 ∧ t.iElapsed = 4) =
      true := by decide

/-- V42-4: `E3` (R263). -/
theorem test_v42_4 : stepped
    { lab with cpu := { lab.cpu with main := { lab.cpu.main with h := 0x12, l := 0x34 }, sp := 0xD000 } }
    [0xE3] [(0xD000, [0x78, 0x56])]
   (fun t => t.cpu.main.h = 0x56 ∧ t.cpu.main.l = 0x78 ∧ t.cpu.pc = 0x8001 ∧ t.readByte 0xD000 = 0x34 ∧ t.readByte
      0xD001 = 0x12 ∧ t.iElapsed = 19) = true := by decide

/-- V42-5: `DD E3` (R264). -/
theorem test_v42_5 : stepped
    { lab with cpu := { lab.cpu with ix := 0xAAAA, sp := 0xD000 } }
    [0xDD, 0xE3] [(0xD000, [0x02, 0x01])]
   (fun t => t.cpu.ix = 0x0102 ∧ t.cpu.pc = 0x8002 ∧ t.readByte 0xD000 = 0xAA ∧ t.readByte 0xD001 = 0xAA ∧ t.iElapsed
      = 23) = true := by decide

/-- V42-6: `ED A0` (R266; BC reaches 0: PV = 0). -/
theorem test_v42_6 : stepped
    { lab with
      cpu := { lab.cpu with
        main := { lab.cpu.main with h := 0xC0, l := 0x00, d := 0xD0, e := 0x00, b := 0x00, c := 0x01 } } }
    [0xED, 0xA0] [(0xC000, [0x5A])]
   (fun t => t.cpu.main.c = 0x00 ∧ t.cpu.main.e = 0x01 ∧ t.cpu.main.l = 0x01 ∧ flagsAre t [.s false, .z false, .h
      false, .pv false, .n false, .c false] ∧ t.cpu.pc = 0x8002 ∧ t.readByte 0xD000 = 0x5A ∧ t.iElapsed = 16) = true
      := by decide

/-- V42-7: `ED A0` (R266; PV = 1). -/
theorem test_v42_7 : stepped
    { lab with
      cpu := { lab.cpu with
        main := { lab.cpu.main with h := 0xC0, l := 0x00, d := 0xD0, e := 0x00, b := 0x00, c := 0x02 } } }
    [0xED, 0xA0] [(0xC000, [0x5A])]
   (fun t => t.cpu.main.c = 0x01 ∧ t.cpu.main.e = 0x01 ∧ t.cpu.main.l = 0x01 ∧ flagsAre t [.s false, .z false, .h
      false, .pv true, .n false, .c false] ∧ t.cpu.pc = 0x8002 ∧ t.readByte 0xD000 = 0x5A ∧ t.iElapsed = 16) = true :=
      by decide

/-- V42-9: `ED B0` (R267; BC = 0: one step, BC = 0xFFFF, repeats (64K iterations)). -/
theorem test_v42_9 : stepped
    { lab with
      cpu := { lab.cpu with
        main := { lab.cpu.main with h := 0xC0, l := 0x00, d := 0xD0, e := 0x00, b := 0x00, c := 0x00 } } }
    [0xED, 0xB0] [(0xC000, [0x09])]
   (fun t => t.cpu.main.b = 0xFF ∧ t.cpu.main.c = 0xFF ∧ t.cpu.main.e = 0x01 ∧ t.cpu.main.l = 0x01 ∧ flagsAre t [.s
      false, .z false, .h false, .pv true, .n false, .c false] ∧ t.cpu.pc = 0x8000 ∧ t.readByte 0xD000 = 0x09 ∧
      t.iElapsed = 21) = true := by decide

/-- V42-10: `ED A8` (R268). -/
theorem test_v42_10 : stepped
    { lab with
      cpu := { lab.cpu with
        main := { lab.cpu.main with h := 0xC0, l := 0x00, d := 0xD0, e := 0x00, b := 0x00, c := 0x05 } } }
    [0xED, 0xA8] [(0xC000, [0x33])]
   (fun t => t.cpu.main.c = 0x04 ∧ t.cpu.main.d = 0xCF ∧ t.cpu.main.e = 0xFF ∧ t.cpu.main.h = 0xBF ∧ t.cpu.main.l =
      0xFF ∧ flagsAre t [.s false, .z false, .h false, .pv true, .n false, .c false] ∧ t.cpu.pc = 0x8002 ∧ t.readByte
      0xD000 = 0x33 ∧ t.iElapsed = 16) = true := by decide

/-- V42-12: `ED A1` (R270; found: Z = 1, C kept). -/
theorem test_v42_12 : stepped
    { lab with
      cpu := { lab.cpu with
        main := { lab.cpu.main with a := 0x42, h := 0xC0, l := 0x00, b := 0x00, c := 0x02 } } }
    [0xED, 0xA1] [(0xC000, [0x42])]
   (fun t => t.cpu.main.c = 0x01 ∧ t.cpu.main.l = 0x01 ∧ flagsAre t [.s false, .z true, .h false, .pv true, .n true,
      .c false] ∧ t.cpu.pc = 0x8002 ∧ t.iElapsed = 16) = true := by decide

/-- V43-1: `80` (R292; signed overflow). -/
theorem test_v43_1 : stepped
    { lab with cpu := { lab.cpu with main := { lab.cpu.main with a := 0x7F, b := 0x01 } } }
    [0x80] []
   (fun t => t.cpu.main.a = 0x80 ∧ flagsAre t [.s true, .z false, .h true, .pv true, .n false, .c false] ∧ t.cpu.pc =
      0x8001 ∧ t.iElapsed = 4) = true := by decide

/-- V43-2: `80` (R292; carry and zero). -/
theorem test_v43_2 : stepped
    { lab with cpu := { lab.cpu with main := { lab.cpu.main with a := 0xFF, b := 0x01 } } }
    [0x80] []
   (fun t => t.cpu.main.a = 0x00 ∧ flagsAre t [.s false, .z true, .h true, .pv false, .n false, .c true] ∧ t.cpu.pc =
      0x8001 ∧ t.iElapsed = 4) = true := by decide

/-- V43-3: `C6 0F` (R292; half carry only). -/
theorem test_v43_3 : stepped
    { lab with cpu := { lab.cpu with main := { lab.cpu.main with a := 0x01 } } }
    [0xC6, 0x0F] []
   (fun t => t.cpu.main.a = 0x10 ∧ flagsAre t [.s false, .z false, .h true, .pv false, .n false, .c false] ∧ t.cpu.pc
      = 0x8002 ∧ t.iElapsed = 7) = true := by decide

/-- V43-4: `88` (R293; carry in). -/
theorem test_v43_4 : stepped
    { lab with
      cpu := { lab.cpu with
        main := { lab.cpu.main with a := 0x0E, b := 0x01, f := Flags.ofByte 0x01 } } }
    [0x88] []
   (fun t => t.cpu.main.a = 0x10 ∧ flagsAre t [.s false, .z false, .h true, .pv false, .n false, .c false] ∧ t.cpu.pc
      = 0x8001 ∧ t.iElapsed = 4) = true := by decide

/-- V43-5: `90` (R294; signed overflow on subtract). -/
theorem test_v43_5 : stepped
    { lab with cpu := { lab.cpu with main := { lab.cpu.main with a := 0x80, b := 0x01 } } }
    [0x90] []
   (fun t => t.cpu.main.a = 0x7F ∧ flagsAre t [.s false, .z false, .h true, .pv true, .n true, .c false] ∧ t.cpu.pc =
      0x8001 ∧ t.iElapsed = 4) = true := by decide

/-- V43-6: `D6 01` (R294; borrow). -/
theorem test_v43_6 : stepped
    { lab with cpu := { lab.cpu with main := { lab.cpu.main with a := 0x00 } } }
    [0xD6, 0x01] []
   (fun t => t.cpu.main.a = 0xFF ∧ flagsAre t [.s true, .z false, .h true, .pv false, .n true, .c true] ∧ t.cpu.pc =
      0x8002 ∧ t.iElapsed = 7) = true := by decide

/-- V43-8: `A0` (R296; H = 1, parity even). -/
theorem test_v43_8 : stepped
    { lab with cpu := { lab.cpu with main := { lab.cpu.main with a := 0xF0, b := 0x3C } } }
    [0xA0] []
   (fun t => t.cpu.main.a = 0x30 ∧ flagsAre t [.s false, .z false, .h true, .pv true, .n false, .c false] ∧ t.cpu.pc =
      0x8001 ∧ t.iElapsed = 4) = true := by decide

/-- V43-9: `B1` (R297; C cleared, parity even). -/
theorem test_v43_9 : stepped
    { lab with
      cpu := { lab.cpu with
        main := { lab.cpu.main with a := 0x01, c := 0x02, f := Flags.ofByte 0x01 } } }
    [0xB1] []
   (fun t => t.cpu.main.a = 0x03 ∧ flagsAre t [.s false, .z false, .h false, .pv true, .n false, .c false] ∧ t.cpu.pc
      = 0x8001 ∧ t.iElapsed = 4) = true := by decide

/-- V43-10: `AF` (R298; XOR A). -/
theorem test_v43_10 : stepped
    { lab with cpu := { lab.cpu with main := { lab.cpu.main with a := 0x5A, f := Flags.ofByte 0x01 } } }
    [0xAF] []
   (fun t => t.cpu.main.a = 0x00 ∧ flagsAre t [.s false, .z true, .h false, .pv true, .n false, .c false] ∧ t.cpu.pc =
      0x8001 ∧ t.iElapsed = 4) = true := by decide

/-- V43-11: `B8` (R299; equal; A kept). -/
theorem test_v43_11 : stepped
    { lab with cpu := { lab.cpu with main := { lab.cpu.main with a := 0x42, b := 0x42 } } }
    [0xB8] []
   (fun t => flagsAre t [.s false, .z true, .h false, .pv false, .n true, .c false] ∧ t.cpu.pc = 0x8001 ∧ t.iElapsed =
      4) = true := by decide

/-- V43-12: `FE 43` (R299; A < n). -/
theorem test_v43_12 : stepped
    { lab with cpu := { lab.cpu with main := { lab.cpu.main with a := 0x42 } } }
    [0xFE, 0x43] []
   (fun t => flagsAre t [.s true, .z false, .h true, .pv false, .n true, .c true] ∧ t.cpu.pc = 0x8002 ∧ t.iElapsed =
      7) = true := by decide

/-- V43-13: `DD 86 01` (R292). -/
theorem test_v43_13 : stepped
    { lab with cpu := { lab.cpu with main := { lab.cpu.main with a := 0x10 }, ix := 0xC000 } }
    [0xDD, 0x86, 0x01] [(0xC001, [0x20])]
   (fun t => t.cpu.main.a = 0x30 ∧ flagsAre t [.s false, .z false, .h false, .pv false, .n false, .c false] ∧ t.cpu.pc
      = 0x8003 ∧ t.iElapsed = 19) = true := by decide

/-- V43-14: `3C` (R300; C unchanged). -/
theorem test_v43_14 : stepped
    { lab with cpu := { lab.cpu with main := { lab.cpu.main with a := 0x7F, f := Flags.ofByte 0x01 } } }
    [0x3C] []
   (fun t => t.cpu.main.a = 0x80 ∧ flagsAre t [.s true, .z false, .h true, .pv true, .n false, .c true] ∧ t.cpu.pc =
      0x8001 ∧ t.iElapsed = 4) = true := by decide

/-- V43-15: `34` (R300). -/
theorem test_v43_15 : stepped
    { lab with cpu := { lab.cpu with main := { lab.cpu.main with h := 0xC0, l := 0x00 } } }
    [0x34] [(0xC000, [0xFF])]
   (fun t => flagsAre t [.s false, .z true, .h true, .pv false, .n false, .c false] ∧ t.cpu.pc = 0x8001 ∧ t.readByte
      0xC000 = 0x00 ∧ t.iElapsed = 11) = true := by decide

/-- V43-16: `05` (R301; signed overflow). -/
theorem test_v43_16 : stepped
    { lab with cpu := { lab.cpu with main := { lab.cpu.main with b := 0x80 } } }
    [0x05] []
   (fun t => t.cpu.main.b = 0x7F ∧ flagsAre t [.s false, .z false, .h true, .pv true, .n true, .c false] ∧ t.cpu.pc =
      0x8001 ∧ t.iElapsed = 4) = true := by decide

/-- V43-17: `3D` (R301; wraps to 0xFF, H = 1). -/
theorem test_v43_17 : stepped
    { lab with cpu := { lab.cpu with main := { lab.cpu.main with a := 0x00 } } }
    [0x3D] []
   (fun t => t.cpu.main.a = 0xFF ∧ flagsAre t [.s true, .z false, .h true, .pv false, .n true, .c false] ∧ t.cpu.pc =
      0x8001 ∧ t.iElapsed = 4) = true := by decide

/-- V43-18: `FD 35 02` (R301). -/
theorem test_v43_18 : stepped
    { lab with cpu := { lab.cpu with iy := 0xC000 } }
    [0xFD, 0x35, 0x02] [(0xC002, [0x01])]
   (fun t => flagsAre t [.s false, .z true, .h false, .pv false, .n true, .c false] ∧ t.cpu.pc = 0x8003 ∧ t.readByte
      0xC002 = 0x00 ∧ t.iElapsed = 23) = true := by decide

/-- V44-4: `2F` (R321). -/
theorem test_v44_4 : stepped
    { lab with cpu := { lab.cpu with main := { lab.cpu.main with a := 0x5A, f := Flags.ofByte 0x01 } } }
    [0x2F] []
   (fun t => t.cpu.main.a = 0xA5 ∧ flagsAre t [.s false, .z false, .h true, .pv false, .n true, .c true] ∧ t.cpu.pc =
      0x8001 ∧ t.iElapsed = 4) = true := by decide

/-- V44-6: `ED 44` (R322; 0x80 negates to itself, PV = 1). -/
theorem test_v44_6 : stepped
    { lab with cpu := { lab.cpu with main := { lab.cpu.main with a := 0x80 } } }
    [0xED, 0x44] []
   (fun t => flagsAre t [.s true, .z false, .h false, .pv true, .n true, .c true] ∧ t.cpu.pc = 0x8002 ∧ t.iElapsed =
      8) = true := by decide

/-- V44-7: `ED 44` (R322; C = 0 only for 0). -/
theorem test_v44_7 : stepped
    { lab with cpu := { lab.cpu with main := { lab.cpu.main with a := 0x00 } } }
    [0xED, 0x44] []
   (fun t => flagsAre t [.s false, .z true, .h false, .pv false, .n true, .c false] ∧ t.cpu.pc = 0x8002 ∧ t.iElapsed =
      8) = true := by decide

/-- V44-8: `3F` (R323; H takes the old C). -/
theorem test_v44_8 : stepped
    { lab with cpu := { lab.cpu with main := { lab.cpu.main with f := Flags.ofByte 0x01 } } }
    [0x3F] []
   (fun t => flagsAre t [.s false, .z false, .h true, .pv false, .n false, .c false] ∧ t.cpu.pc = 0x8001 ∧ t.iElapsed
      = 4) = true := by decide

/-- V44-9: `37` (R324). -/
theorem test_v44_9 : stepped
    { lab with cpu := { lab.cpu with main := { lab.cpu.main with f := Flags.ofByte 0x12 } } }
    [0x37] []
   (fun t => flagsAre t [.s false, .z false, .h false, .pv false, .n false, .c true] ∧ t.cpu.pc = 0x8001 ∧ t.iElapsed
      = 4) = true := by decide

/-- V44-10: `00` (R325). -/
theorem test_v44_10 : stepped lab [0x00] []
   (fun t => t.cpu.pc = 0x8001 ∧ t.iElapsed = 4) = true := by decide

/-- V44-12: `F3` (R327). -/
theorem test_v44_12 : stepped
    { lab with cpu := { lab.cpu with iff1 := true, iff2 := true } }
    [0xF3] []
   (fun t => t.cpu.pc = 0x8001 ∧ t.cpu.iff1 = false ∧ t.cpu.iff2 = false ∧ t.iElapsed = 4) = true := by decide

/-- V44-13: `FB` (R328). -/
theorem test_v44_13 : stepped lab [0xFB] []
   (fun t => t.cpu.pc = 0x8001 ∧ t.cpu.iff1 = true ∧ t.cpu.iff2 = true ∧ t.cpu.eiDelay = true ∧ t.iElapsed = 4) = true
      := by decide

/-- V44-14: `ED 5E` (R331). -/
theorem test_v44_14 : stepped lab [0xED, 0x5E] []
   (fun t => t.cpu.pc = 0x8002 ∧ t.cpu.im = .im2 ∧ t.iElapsed = 8) = true := by decide

/-- V44-15: `ED FE` (R332; identity patch). -/
theorem test_v44_15 : stepped
    { lab with hostReplies := [answer 0] }
    [0xED, 0xFE] []
   (fun t => t.cpu.pc = 0x8002 ∧ t.iElapsed = 8) = true := by decide

/-- V45-1: `19` (R350; H from bit 11). -/
theorem test_v45_1 : stepped
    { lab with
      cpu := { lab.cpu with
        main := { lab.cpu.main with h := 0x0F, l := 0xFF, d := 0x00, e := 0x01 } } }
    [0x19] []
   (fun t => t.cpu.main.h = 0x10 ∧ t.cpu.main.l = 0x00 ∧ flagsAre t [.s false, .z false, .h true, .pv false, .n false,
      .c false] ∧ t.cpu.pc = 0x8001 ∧ t.iElapsed = 11) = true := by decide

/-- V45-2: `29` (R350; carry; S Z PV kept). -/
theorem test_v45_2 : stepped
    { lab with
      cpu := { lab.cpu with
        main := { lab.cpu.main with h := 0x80, l := 0x00, f := Flags.ofByte 0xC4 } } }
    [0x29] []
   (fun t => t.cpu.main.h = 0x00 ∧ flagsAre t [.s true, .z true, .h false, .pv true, .n false, .c true] ∧ t.cpu.pc =
      0x8001 ∧ t.iElapsed = 11) = true := by decide

/-- V45-3: `ED 4A` (R351; overflow with carry in). -/
theorem test_v45_3 : stepped
    { lab with
      cpu := { lab.cpu with
        main := { lab.cpu.main with h := 0x7F, l := 0xFF, b := 0x00, c := 0x00, f := Flags.ofByte 0x01 } } }
    [0xED, 0x4A] []
   (fun t => t.cpu.main.h = 0x80 ∧ t.cpu.main.l = 0x00 ∧ flagsAre t [.s true, .z false, .h true, .pv true, .n false,
      .c false] ∧ t.cpu.pc = 0x8002 ∧ t.iElapsed = 15) = true := by decide

/-- V45-4: `ED 52` (R352; zero). -/
theorem test_v45_4 : stepped
    { lab with
      cpu := { lab.cpu with
        main := { lab.cpu.main with h := 0x10, l := 0x00, d := 0x10, e := 0x00 } } }
    [0xED, 0x52] []
   (fun t => t.cpu.main.h = 0x00 ∧ flagsAre t [.s false, .z true, .h false, .pv false, .n true, .c false] ∧ t.cpu.pc =
      0x8002 ∧ t.iElapsed = 15) = true := by decide

/-- V45-5: `ED 72` (R352; borrow). -/
theorem test_v45_5 : stepped
    { lab with cpu := { lab.cpu with main := { lab.cpu.main with h := 0x00, l := 0x00 }, sp := 0x0001 } }
    [0xED, 0x72] []
   (fun t => t.cpu.main.h = 0xFF ∧ t.cpu.main.l = 0xFF ∧ flagsAre t [.s true, .z false, .h true, .pv false, .n true,
      .c true] ∧ t.cpu.pc = 0x8002 ∧ t.iElapsed = 15) = true := by decide

/-- V45-6: `DD 29` (R353; ADD IX,IX). -/
theorem test_v45_6 : stepped
    { lab with cpu := { lab.cpu with ix := 0x4000 } }
    [0xDD, 0x29] []
   (fun t => flagsAre t [.s false, .z false, .h false, .pv false, .n false, .c false] ∧ t.cpu.ix = 0x8000 ∧ t.cpu.pc =
      0x8002 ∧ t.iElapsed = 15) = true := by decide

/-- V45-7: `33` (R355; wraps; no flags). -/
theorem test_v45_7 : stepped
    { lab with cpu := { lab.cpu with sp := 0xFFFF } }
    [0x33] []
   (fun t => t.cpu.sp = 0x0000 ∧ t.cpu.pc = 0x8001 ∧ t.iElapsed = 6) = true := by decide

/-- V45-8: `0B` (R358; no flags: Z stays 1). -/
theorem test_v45_8 : stepped
    { lab with
      cpu := { lab.cpu with
        main := { lab.cpu.main with b := 0x00, c := 0x00, f := Flags.ofByte 0x40 } } }
    [0x0B] []
   (fun t => t.cpu.main.b = 0xFF ∧ t.cpu.main.c = 0xFF ∧ t.cpu.pc = 0x8001 ∧ t.iElapsed = 6) = true := by decide

/-- V45-9: `FD 23` (R357). -/
theorem test_v45_9 : stepped
    { lab with cpu := { lab.cpu with iy := 0x00FF } }
    [0xFD, 0x23] []
   (fun t => t.cpu.iy = 0x0100 ∧ t.cpu.pc = 0x8002 ∧ t.iElapsed = 10) = true := by decide

/-- V46-1: `07` (R370; S Z PV kept). -/
theorem test_v46_1 : stepped
    { lab with cpu := { lab.cpu with main := { lab.cpu.main with a := 0x81, f := Flags.ofByte 0xC4 } } }
    [0x07] []
   (fun t => t.cpu.main.a = 0x03 ∧ flagsAre t [.s true, .z true, .h false, .pv true, .n false, .c true] ∧ t.cpu.pc =
      0x8001 ∧ t.iElapsed = 4) = true := by decide

/-- V46-3: `0F` (R372). -/
theorem test_v46_3 : stepped
    { lab with cpu := { lab.cpu with main := { lab.cpu.main with a := 0x01 } } }
    [0x0F] []
   (fun t => t.cpu.main.a = 0x80 ∧ flagsAre t [.s false, .z false, .h false, .pv false, .n false, .c true] ∧ t.cpu.pc
      = 0x8001 ∧ t.iElapsed = 4) = true := by decide

/-- V46-4: `1F` (R373). -/
theorem test_v46_4 : stepped
    { lab with cpu := { lab.cpu with main := { lab.cpu.main with a := 0x01, f := Flags.ofByte 0x01 } } }
    [0x1F] []
   (fun t => t.cpu.main.a = 0x80 ∧ flagsAre t [.s false, .z false, .h false, .pv false, .n false, .c true] ∧ t.cpu.pc
      = 0x8001 ∧ t.iElapsed = 4) = true := by decide

/-- V46-5: `CB 00` (R375). -/
theorem test_v46_5 : stepped
    { lab with cpu := { lab.cpu with main := { lab.cpu.main with b := 0x80 } } }
    [0xCB, 0x00] []
   (fun t => t.cpu.main.b = 0x01 ∧ flagsAre t [.s false, .z false, .h false, .pv false, .n false, .c true] ∧ t.cpu.pc
      = 0x8002 ∧ t.iElapsed = 8) = true := by decide

/-- V46-6: `CB 16` (R376; result 0). -/
theorem test_v46_6 : stepped
    { lab with cpu := { lab.cpu with main := { lab.cpu.main with h := 0xC0, l := 0x00 } } }
    [0xCB, 0x16] [(0xC000, [0x80])]
   (fun t => flagsAre t [.s false, .z true, .h false, .pv true, .n false, .c true] ∧ t.cpu.pc = 0x8002 ∧ t.readByte
      0xC000 = 0x00 ∧ t.iElapsed = 15) = true := by decide

/-- V46-7: `CB 09` (R377). -/
theorem test_v46_7 : stepped
    { lab with cpu := { lab.cpu with main := { lab.cpu.main with c := 0x01 } } }
    [0xCB, 0x09] []
   (fun t => t.cpu.main.c = 0x80 ∧ flagsAre t [.s true, .z false, .h false, .pv false, .n false, .c true] ∧ t.cpu.pc =
      0x8002 ∧ t.iElapsed = 8) = true := by decide

/-- V46-8: `CB 1A` (R378). -/
theorem test_v46_8 : stepped
    { lab with cpu := { lab.cpu with main := { lab.cpu.main with d := 0x01, f := Flags.ofByte 0x01 } } }
    [0xCB, 0x1A] []
   (fun t => t.cpu.main.d = 0x80 ∧ flagsAre t [.s true, .z false, .h false, .pv false, .n false, .c true] ∧ t.cpu.pc =
      0x8002 ∧ t.iElapsed = 8) = true := by decide

/-- V46-9: `CB 23` (R379). -/
theorem test_v46_9 : stepped
    { lab with cpu := { lab.cpu with main := { lab.cpu.main with e := 0xC0 } } }
    [0xCB, 0x23] []
   (fun t => t.cpu.main.e = 0x80 ∧ flagsAre t [.s true, .z false, .h false, .pv false, .n false, .c true] ∧ t.cpu.pc =
      0x8002 ∧ t.iElapsed = 8) = true := by decide

/-- V46-10: `CB 2C` (R380). -/
theorem test_v46_10 : stepped
    { lab with cpu := { lab.cpu with main := { lab.cpu.main with h := 0x81 } } }
    [0xCB, 0x2C] []
   (fun t => t.cpu.main.h = 0xC0 ∧ flagsAre t [.s true, .z false, .h false, .pv true, .n false, .c true] ∧ t.cpu.pc =
      0x8002 ∧ t.iElapsed = 8) = true := by decide

/-- V46-11: `CB 3D` (R381). -/
theorem test_v46_11 : stepped
    { lab with cpu := { lab.cpu with main := { lab.cpu.main with l := 0x81 } } }
    [0xCB, 0x3D] []
   (fun t => t.cpu.main.l = 0x40 ∧ flagsAre t [.s false, .z false, .h false, .pv false, .n false, .c true] ∧ t.cpu.pc
      = 0x8002 ∧ t.iElapsed = 8) = true := by decide

/-- V46-12: `DD CB 01 06` (R375). -/
theorem test_v46_12 : stepped
    { lab with cpu := { lab.cpu with ix := 0xC000 } }
    [0xDD, 0xCB, 0x01, 0x06] [(0xC001, [0x81])]
   (fun t => flagsAre t [.s false, .z false, .h false, .pv true, .n false, .c true] ∧ t.cpu.pc = 0x8004 ∧ t.readByte
      0xC001 = 0x03 ∧ t.iElapsed = 23) = true := by decide

/-- V46-13: `FD CB FF 3E` (R381). -/
theorem test_v46_13 : stepped
    { lab with cpu := { lab.cpu with iy := 0xC001 } }
    [0xFD, 0xCB, 0xFF, 0x3E] [(0xC000, [0x02])]
   (fun t => flagsAre t [.s false, .z false, .h false, .pv false, .n false, .c false] ∧ t.cpu.pc = 0x8004 ∧ t.readByte
      0xC000 = 0x01 ∧ t.iElapsed = 23) = true := by decide

/-- V46-14: `ED 6F` (R382). -/
theorem test_v46_14 : stepped
    { lab with
      cpu := { lab.cpu with
        main := { lab.cpu.main with a := 0x12, h := 0xC0, l := 0x00, f := Flags.ofByte 0x01 } } }
    [0xED, 0x6F] [(0xC000, [0x34])]
   (fun t => t.cpu.main.a = 0x13 ∧ flagsAre t [.s false, .z false, .h false, .pv false, .n false, .c true] ∧ t.cpu.pc
      = 0x8002 ∧ t.readByte 0xC000 = 0x42 ∧ t.iElapsed = 18) = true := by decide

/-- V46-15: `ED 67` (R383). -/
theorem test_v46_15 : stepped
    { lab with cpu := { lab.cpu with main := { lab.cpu.main with a := 0x12, h := 0xC0, l := 0x00 } } }
    [0xED, 0x67] [(0xC000, [0x34])]
   (fun t => t.cpu.main.a = 0x14 ∧ flagsAre t [.s false, .z false, .h false, .pv true, .n false, .c false] ∧ t.cpu.pc
      = 0x8002 ∧ t.readByte 0xC000 = 0x23 ∧ t.iElapsed = 18) = true := by decide

/-- V47-1: `CB 7F` (R400; S and PV drawn). -/
theorem test_v47_1 : stepped
    { lab with cpu := { lab.cpu with main := { lab.cpu.main with a := 0x80, f := Flags.ofByte 0x01 } } }
    [0xCB, 0x7F] []
   (fun t => flagsAre t [.z false, .h true, .n false, .c true] ∧ t.cpu.pc = 0x8002 ∧ t.iElapsed = 8) = true := by
      decide

/-- V47-2: `CB 47` (R400). -/
theorem test_v47_2 : stepped
    { lab with cpu := { lab.cpu with main := { lab.cpu.main with a := 0x80 } } }
    [0xCB, 0x47] []
   (fun t => flagsAre t [.z true, .h true, .n false, .c false] ∧ t.cpu.pc = 0x8002 ∧ t.iElapsed = 8) = true := by
      decide

/-- V47-3: `CB 46` (R400). -/
theorem test_v47_3 : stepped
    { lab with cpu := { lab.cpu with main := { lab.cpu.main with h := 0xC0, l := 0x00 } } }
    [0xCB, 0x46] [(0xC000, [0x01])]
   (fun t => flagsAre t [.z false, .h true, .n false, .c false] ∧ t.cpu.pc = 0x8002 ∧ t.iElapsed = 12) = true := by
      decide

/-- V47-4: `DD CB 02 5E` (R400). -/
theorem test_v47_4 : stepped
    { lab with cpu := { lab.cpu with ix := 0xC000 } }
    [0xDD, 0xCB, 0x02, 0x5E] [(0xC002, [0x00])]
   (fun t => flagsAre t [.z true, .h true, .n false, .c false] ∧ t.cpu.pc = 0x8004 ∧ t.iElapsed = 20) = true := by
      decide

/-- V47-5: `CB F8` (R401). -/
theorem test_v47_5 : stepped
    { lab with cpu := { lab.cpu with main := { lab.cpu.main with b := 0x00 } } }
    [0xCB, 0xF8] []
   (fun t => t.cpu.main.b = 0x80 ∧ t.cpu.pc = 0x8002 ∧ t.iElapsed = 8) = true := by decide

/-- V47-6: `DD CB 05 CE` (R401). -/
theorem test_v47_6 : stepped
    { lab with cpu := { lab.cpu with ix := 0xC000 } }
    [0xDD, 0xCB, 0x05, 0xCE] [(0xC005, [0x01])]
   (fun t => t.cpu.pc = 0x8004 ∧ t.readByte 0xC005 = 0x03 ∧ t.iElapsed = 23) = true := by decide

/-- V47-7: `CB 86` (R402). -/
theorem test_v47_7 : stepped
    { lab with cpu := { lab.cpu with main := { lab.cpu.main with h := 0xC0, l := 0x00 } } }
    [0xCB, 0x86] [(0xC000, [0xFF])]
   (fun t => t.cpu.pc = 0x8002 ∧ t.readByte 0xC000 = 0xFE ∧ t.iElapsed = 15) = true := by decide

/-- V47-8: `FD CB FF BE` (R402). -/
theorem test_v47_8 : stepped
    { lab with cpu := { lab.cpu with iy := 0xC010 } }
    [0xFD, 0xCB, 0xFF, 0xBE] [(0xC00F, [0x80])]
   (fun t => t.cpu.pc = 0x8004 ∧ t.readByte 0xC00F = 0x00 ∧ t.iElapsed = 23) = true := by decide

/-- V48-1: `C3 00 90` (R421). -/
theorem test_v48_1 : stepped lab [0xC3, 0x00, 0x90] []
   (fun t => t.cpu.pc = 0x9000 ∧ t.iElapsed = 10) = true := by decide

/-- V48-2: `CA 00 90` (R422; taken). -/
theorem test_v48_2 : stepped
    { lab with cpu := { lab.cpu with main := { lab.cpu.main with f := Flags.ofByte 0x40 } } }
    [0xCA, 0x00, 0x90] []
   (fun t => t.cpu.pc = 0x9000 ∧ t.iElapsed = 10) = true := by decide

/-- V48-3: `CA 00 90` (R422; not taken: also 10). -/
theorem test_v48_3 : stepped
    { lab with cpu := { lab.cpu with main := { lab.cpu.main with f := Flags.ofByte 0x00 } } }
    [0xCA, 0x00, 0x90] []
   (fun t => t.cpu.pc = 0x8003 ∧ t.iElapsed = 10) = true := by decide

/-- V48-4: `18 FE` (R423; JR to itself). -/
theorem test_v48_4 : stepped lab [0x18, 0xFE] []
   (fun t => t.cpu.pc = 0x8000 ∧ t.iElapsed = 12) = true := by decide

/-- V48-5: `38 10` (R424; not taken). -/
theorem test_v48_5 : stepped
    { lab with cpu := { lab.cpu with main := { lab.cpu.main with f := Flags.ofByte 0x00 } } }
    [0x38, 0x10] []
   (fun t => t.cpu.pc = 0x8002 ∧ t.iElapsed = 7) = true := by decide

/-- V48-6: `30 80` (R424; taken, e = -128). -/
theorem test_v48_6 : stepped
    { lab with cpu := { lab.cpu with main := { lab.cpu.main with f := Flags.ofByte 0x00 } } }
    [0x30, 0x80] []
   (fun t => t.cpu.pc = 0x7F82 ∧ t.iElapsed = 12) = true := by decide

/-- V48-7: `E9` (R425). -/
theorem test_v48_7 : stepped
    { lab with cpu := { lab.cpu with main := { lab.cpu.main with h := 0x12, l := 0x34 } } }
    [0xE9] []
   (fun t => t.cpu.pc = 0x1234 ∧ t.iElapsed = 4) = true := by decide

/-- V48-8: `DD E9` (R426). -/
theorem test_v48_8 : stepped
    { lab with cpu := { lab.cpu with ix := 0x4321 } }
    [0xDD, 0xE9] []
   (fun t => t.cpu.pc = 0x4321 ∧ t.iElapsed = 8) = true := by decide

/-- V48-10: `10 FE` (R428; falls through). -/
theorem test_v48_10 : stepped
    { lab with cpu := { lab.cpu with main := { lab.cpu.main with b := 0x01 } } }
    [0x10, 0xFE] []
   (fun t => t.cpu.main.b = 0x00 ∧ t.cpu.pc = 0x8002 ∧ t.iElapsed = 8) = true := by decide

/-- V48-11: `10 FE` (R428; B = 0 wraps to 0xFF: taken; flags kept). -/
theorem test_v48_11 : stepped
    { lab with cpu := { lab.cpu with main := { lab.cpu.main with b := 0x00, f := Flags.ofByte 0x40 } } }
    [0x10, 0xFE] []
   (fun t => t.cpu.main.b = 0xFF ∧ t.cpu.pc = 0x8000 ∧ t.iElapsed = 13) = true := by decide

/-- V48-12: `CD 00 90` (R429). -/
theorem test_v48_12 : stepped
    { lab with cpu := { lab.cpu with sp := 0xD000 } }
    [0xCD, 0x00, 0x90] []
   (fun t => t.cpu.sp = 0xCFFE ∧ t.cpu.pc = 0x9000 ∧ t.readByte 0xCFFF = 0x80 ∧ t.readByte 0xCFFE = 0x03 ∧ t.iElapsed
      = 17) = true := by decide

/-- V48-13: `DC 00 90` (R430; not taken). -/
theorem test_v48_13 : stepped
    { lab with cpu := { lab.cpu with main := { lab.cpu.main with f := Flags.ofByte 0x00 }, sp := 0xD000 } }
    [0xDC, 0x00, 0x90] []
   (fun t => t.cpu.pc = 0x8003 ∧ t.iElapsed = 10) = true := by decide

/-- V48-14: `F4 00 90` (R430; CALL P: taken). -/
theorem test_v48_14 : stepped
    { lab with cpu := { lab.cpu with main := { lab.cpu.main with f := Flags.ofByte 0x00 }, sp := 0xD000 } }
    [0xF4, 0x00, 0x90] []
   (fun t => t.cpu.sp = 0xCFFE ∧ t.cpu.pc = 0x9000 ∧ t.readByte 0xCFFF = 0x80 ∧ t.readByte 0xCFFE = 0x03 ∧ t.iElapsed
      = 17) = true := by decide

/-- V48-15: `C9` (R431). -/
theorem test_v48_15 : stepped
    { lab with cpu := { lab.cpu with sp := 0xCFFE } }
    [0xC9] [(0xCFFE, [0x03, 0x80])]
   (fun t => t.cpu.sp = 0xD000 ∧ t.cpu.pc = 0x8003 ∧ t.iElapsed = 10) = true := by decide

/-- V48-16: `E0` (R432; RET PO with PV = 1: not taken). -/
theorem test_v48_16 : stepped
    { lab with cpu := { lab.cpu with main := { lab.cpu.main with f := Flags.ofByte 0x04 }, sp := 0xCFFE } }
    [0xE0] [(0xCFFE, [0x03, 0x80])]
   (fun t => t.cpu.pc = 0x8001 ∧ t.iElapsed = 5) = true := by decide

/-- V48-17: `E8` (R432; RET PE: taken). -/
theorem test_v48_17 : stepped
    { lab with cpu := { lab.cpu with main := { lab.cpu.main with f := Flags.ofByte 0x04 }, sp := 0xCFFE } }
    [0xE8] [(0xCFFE, [0x03, 0x80])]
   (fun t => t.cpu.sp = 0xD000 ∧ t.cpu.pc = 0x8003 ∧ t.iElapsed = 11) = true := by decide

/-- V48-18: `ED 4D` (R433). -/
theorem test_v48_18 : stepped
    { lab with cpu := { lab.cpu with sp := 0xCFFE, iff1 := false, iff2 := true, inService := true } }
    [0xED, 0x4D] [(0xCFFE, [0x03, 0x80])]
   (fun t => t.cpu.sp = 0xD000 ∧ t.cpu.pc = 0x8003 ∧ t.cpu.iff1 = true ∧ t.cpu.inService = false ∧ sawReti t ∧
      t.iElapsed = 14) = true := by decide

/-- V48-19: `ED 45` (R434; no retiSignal). -/
theorem test_v48_19 : stepped
    { lab with cpu := { lab.cpu with sp := 0xCFFE, iff1 := false, iff2 := true, inService := true } }
    [0xED, 0x45] [(0xCFFE, [0x03, 0x80])]
   (fun t => t.cpu.sp = 0xD000 ∧ t.cpu.pc = 0x8003 ∧ t.cpu.iff1 = true ∧ t.cpu.inService = false ∧ t.iElapsed = 14) =
      true := by decide

/-- V48-20: `FF` (R435). -/
theorem test_v48_20 : stepped
    { lab with cpu := { lab.cpu with sp := 0xD000 } }
    [0xFF] []
   (fun t => t.cpu.sp = 0xCFFE ∧ t.cpu.pc = 0x0038 ∧ t.readByte 0xCFFF = 0x80 ∧ t.readByte 0xCFFE = 0x01 ∧ t.iElapsed
      = 11) = true := by decide

/-- V48-21: `CF` (R435). -/
theorem test_v48_21 : stepped
    { lab with cpu := { lab.cpu with sp := 0xD000 } }
    [0xCF] []
   (fun t => t.cpu.sp = 0xCFFE ∧ t.cpu.pc = 0x0008 ∧ t.readByte 0xCFFF = 0x80 ∧ t.readByte 0xCFFE = 0x01 ∧ t.iElapsed
      = 11) = true := by decide

/-- V49-1: `DB 10` (R460; port 0x1210 to the host). -/
theorem test_v49_1 : stepped
    { lab with cpu := { lab.cpu with main := { lab.cpu.main with a := 0x12 } }, hostReplies := [answer 0x5A] }
    [0xDB, 0x10] []
   (fun t => t.cpu.main.a = 0x5A ∧ t.cpu.pc = 0x8002 ∧ t.iElapsed = 11) = true := by decide

/-- V49-2: `ED 78` (R461; flags from the byte; C kept). -/
theorem test_v49_2 : stepped
    { lab with
      cpu := { lab.cpu with
        main := { lab.cpu.main with b := 0x00, c := 0x10, f := Flags.ofByte 0x01 } }
      hostReplies := [answer 0x00] }
    [0xED, 0x78] []
   (fun t => flagsAre t [.s false, .z true, .h false, .pv true, .n false, .c true] ∧ t.cpu.pc = 0x8002 ∧ t.iElapsed =
      12) = true := by decide

/-- V49-3: `ED 50` (R461). -/
theorem test_v49_3 : stepped
    { lab with
      cpu := { lab.cpu with main := { lab.cpu.main with b := 0xFF, c := 0x10 } }
      hostReplies := [answer 0x81] }
    [0xED, 0x50] []
   (fun t => t.cpu.main.d = 0x81 ∧ flagsAre t [.s true, .z false, .h false, .pv true, .n false, .c false] ∧ t.cpu.pc =
      0x8002 ∧ t.iElapsed = 12) = true := by decide

/-- V49-4: `D3 20` (R466). -/
theorem test_v49_4 : stepped
    { lab with cpu := { lab.cpu with main := { lab.cpu.main with a := 0x77 } } }
    [0xD3, 0x20] []
   (fun t => t.cpu.pc = 0x8002 ∧ sawOut t 0x7720 0x77 ∧ t.iElapsed = 11) = true := by decide

/-- V49-5: `D3 00` (R466; ioBytePort: setIoByte, not the host). -/
theorem test_v49_5 : stepped
    { lab with cpu := { lab.cpu with main := { lab.cpu.main with a := 0x81 } } }
    [0xD3, 0x00] []
   (fun t => t.cpu.pc = 0x8002 ∧ t.ioByte = 0x81 ∧ t.iElapsed = 11) = true := by decide

/-- V49-6: `ED 41` (R467). -/
theorem test_v49_6 : stepped
    { lab with cpu := { lab.cpu with main := { lab.cpu.main with b := 0x01, c := 0x20 } } }
    [0xED, 0x41] []
   (fun t => t.cpu.pc = 0x8002 ∧ sawOut t 0x0120 0x01 ∧ t.iElapsed = 12) = true := by decide

/-- V49-7: `ED A2` (R462; S H PV C drawn). -/
theorem test_v49_7 : stepped
    { lab with
      cpu := { lab.cpu with
        main := { lab.cpu.main with b := 0x02, c := 0x10, h := 0xC0, l := 0x00 } }
      hostReplies := [answer 0x11] }
    [0xED, 0xA2] []
   (fun t => t.cpu.main.b = 0x01 ∧ t.cpu.main.l = 0x01 ∧ flagsAre t [.z false, .n true] ∧ t.cpu.pc = 0x8002 ∧
      t.readByte 0xC000 = 0x11 ∧ t.iElapsed = 16) = true := by decide

/-- V49-9: `ED AA` (R464). -/
theorem test_v49_9 : stepped
    { lab with
      cpu := { lab.cpu with
        main := { lab.cpu.main with b := 0x01, c := 0x10, h := 0xC0, l := 0x01 } }
      hostReplies := [answer 0x33] }
    [0xED, 0xAA] []
   (fun t => t.cpu.main.b = 0x00 ∧ t.cpu.main.l = 0x00 ∧ flagsAre t [.z true, .n true] ∧ t.cpu.pc = 0x8002 ∧
      t.readByte 0xC001 = 0x33 ∧ t.iElapsed = 16) = true := by decide

/-- V49-10: `ED A3` (R468; port after B--: 0x0020). -/
theorem test_v49_10 : stepped
    { lab with
      cpu := { lab.cpu with
        main := { lab.cpu.main with b := 0x01, c := 0x20, h := 0xC0, l := 0x00 } } }
    [0xED, 0xA3] [(0xC000, [0x44])]
   (fun t => t.cpu.main.b = 0x00 ∧ t.cpu.main.l = 0x01 ∧ flagsAre t [.z true, .n true] ∧ t.cpu.pc = 0x8002 ∧ sawOut t
      0x0020 0x44 ∧ t.iElapsed = 16) = true := by decide

/-- V49-14: `DB 55` (R460; unmapped, permissive: dummyInValue). -/
theorem test_v49_14 : stepped
    { lab with cfg := { lab.cfg with portPolicy := .permissive } }
    [0xDB, 0x55] []
   (fun t => t.cpu.main.a = 0xFF ∧ t.cpu.pc = 0x8002 ∧ t.iElapsed = 11) = true := by decide

/-- M17: `22 FF 1F` (R237, R84, R97). -/
theorem test_m17 : stepped
    { lab with cpu := { lab.cpu with main := { lab.cpu.main with h := 0x2A, l := 0x05 } }, ioByte := 0x00 }
    [0x22, 0xFF, 0x1F] []
   (fun t => t.cpu.pc = 0x8003 ∧ t.subPage = 0x05 ∧ t.readByte 0x1FFF = 0xFF ∧ t.readByte 0x2000 = 0xFF ∧ t.iElapsed =
      16) = true := by decide

/-- I1: `00` (R504). -/
theorem test_i1 : stepped
    { lab with cpu := { lab.cpu with sp := 0xD000, iff1 := true, iff2 := true }, nmiPending := true }
    [0x00] []
   (fun t => t.cpu.sp = 0xCFFE ∧ t.cpu.pc = 0x0066 ∧ t.cpu.iff1 = false ∧ t.cpu.inService = true ∧ t.nmiPending =
      false ∧ t.readByte 0xCFFF = 0x80 ∧ t.readByte 0xCFFE = 0x00 ∧ t.iElapsed = 11) = true := by decide

/-- I2: `00` (R504; NMI with IFF1 = 0). -/
theorem test_i2 : stepped
    { lab with cpu := { lab.cpu with sp := 0xD000, iff1 := false, iff2 := false }, nmiPending := true }
    [0x00] []
   (fun t => t.cpu.sp = 0xCFFE ∧ t.cpu.pc = 0x0066 ∧ t.cpu.inService = true ∧ t.nmiPending = false ∧ t.readByte 0xCFFF
      = 0x80 ∧ t.readByte 0xCFFE = 0x00 ∧ t.iElapsed = 11) = true := by decide

/-- I3: `00` (R507). -/
theorem test_i3 : stepped
    { lab with
      cpu := { lab.cpu with sp := 0xD000, iff1 := true, iff2 := true, im := .im1 }
      intPending := true }
    [0x00] []
   (fun t => t.cpu.sp = 0xCFFE ∧ t.cpu.pc = 0x0038 ∧ t.cpu.iff1 = false ∧ t.cpu.iff2 = false ∧ t.cpu.inService = true
      ∧ t.intPending = false ∧ t.readByte 0xCFFF = 0x80 ∧ t.readByte 0xCFFE = 0x00 ∧ t.iElapsed = 13) = true := by
      decide

/-- I4: `00` (R506; mode 0 = RST 38H). -/
theorem test_i4 : stepped
    { lab with cpu := { lab.cpu with sp := 0xD000, iff1 := true, iff2 := true }, intPending := true }
    [0x00] []
   (fun t => t.cpu.sp = 0xCFFE ∧ t.cpu.pc = 0x0038 ∧ t.cpu.iff1 = false ∧ t.cpu.iff2 = false ∧ t.cpu.inService = true
      ∧ t.intPending = false ∧ t.readByte 0xCFFF = 0x80 ∧ t.readByte 0xCFFE = 0x00 ∧ t.iElapsed = 13) = true := by
      decide

/-- I5: `00` (R508). -/
theorem test_i5 : stepped
    { lab with
      cpu := { lab.cpu with sp := 0xD000, iff1 := true, iff2 := true, im := .im2, i := 0xC0 }
      intPending := true
      hostReplies := [answer 0x10] }
    [0x00] [(0xC010, [0x34, 0x12])]
   (fun t => t.cpu.sp = 0xCFFE ∧ t.cpu.pc = 0x1234 ∧ t.cpu.iff1 = false ∧ t.cpu.iff2 = false ∧ t.cpu.inService = true
      ∧ t.intPending = false ∧ t.readByte 0xCFFF = 0x80 ∧ t.readByte 0xCFFE = 0x00 ∧ t.iElapsed = 19) = true := by
      decide

/-- I6: `00` (R508; odd vector: table at C011). -/
theorem test_i6 : stepped
    { lab with
      cpu := { lab.cpu with sp := 0xD000, iff1 := true, iff2 := true, im := .im2, i := 0xC0 }
      intPending := true
      hostReplies := [answer 0x11] }
    [0x00] [(0xC010, [0x34, 0x12, 0x56])]
   (fun t => t.cpu.sp = 0xCFFE ∧ t.cpu.pc = 0x5612 ∧ t.cpu.iff1 = false ∧ t.cpu.iff2 = false ∧ t.cpu.inService = true
      ∧ t.intPending = false ∧ t.iElapsed = 19) = true := by decide

/-- I7: `3E 42` (R509; declined, permissive: the instruction runs). -/
theorem test_i7 : stepped
    { lab with
      cpu := { lab.cpu with sp := 0xD000, iff1 := true, iff2 := true, im := .im2, i := 0xC0 }
      intPending := true
      hostReplies := [declined] }
    [0x3E, 0x42] []
   (fun t => t.cpu.main.a = 0x42 ∧ t.cpu.pc = 0x8002 ∧ t.intPending = false ∧ t.iElapsed = 7) = true := by decide

/-- I8: `00` (R505; disabled: stays pending). -/
theorem test_i8 : stepped
    { lab with cpu := { lab.cpu with sp := 0xD000, iff1 := false, im := .im1 }, intPending := true }
    [0x00] []
   (fun t => t.cpu.pc = 0x8001 ∧ t.iElapsed = 4) = true := by decide

/-- I9: `00` (R511; deferred by eiDelay). -/
theorem test_i9 : stepped
    { lab with
      cpu := { lab.cpu with sp := 0xD000, iff1 := true, iff2 := true, im := .im1, eiDelay := true }
      intPending := true }
    [0x00] []
   (fun t => t.cpu.pc = 0x8001 ∧ t.cpu.eiDelay = false ∧ t.iElapsed = 4) = true := by decide

/-- I10: `76` (R510; wakes HALT; PC was past the HALT). -/
theorem test_i10 : stepped
    { lab with
      cpu := { lab.cpu with
        pc := 0x8001
        sp := 0xD000
        iff1 := true
        iff2 := true
        im := .im1
        halted := true }
      intPending := true }
    [0x76] []
   (fun t => t.cpu.sp = 0xCFFE ∧ t.cpu.pc = 0x0038 ∧ t.cpu.iff1 = false ∧ t.cpu.iff2 = false ∧ t.cpu.halted = false ∧
      t.cpu.inService = true ∧ t.intPending = false ∧ t.readByte 0xCFFF = 0x80 ∧ t.readByte 0xCFFE = 0x01 ∧ t.iElapsed
      = 13) = true := by decide

/-- I14: `00` (R508; vector FF: high byte at C000). -/
theorem test_i14 : stepped
    { lab with
      cpu := { lab.cpu with sp := 0xD000, iff1 := true, iff2 := true, im := .im2, i := 0xBF }
      intPending := true
      hostReplies := [answer 0xFF] }
    [0x00] [(0xBFFF, [0x78]), (0xC000, [0x56])]
   (fun t => t.cpu.sp = 0xCFFE ∧ t.cpu.pc = 0x5678 ∧ t.cpu.iff1 = false ∧ t.cpu.iff2 = false ∧ t.cpu.inService = true
      ∧ t.intPending = false ∧ t.iElapsed = 19) = true := by decide

/-- I17: `00` (R504, R523; second NMI inside the NMI handler: IFF2 <- IFF1 = 0). -/
theorem test_i17 : stepped
    { lab with
      cpu := { lab.cpu with
        pc := 0x0066
        sp := 0xCFFE
        iff1 := false
        iff2 := true
        inService := true }
      nmiPending := true }
    [0x00] []
   (fun t => t.cpu.sp = 0xCFFC ∧ t.cpu.iff2 = false ∧ t.nmiPending = false ∧ t.cpu.pc = 0x0066 ∧ t.readByte 0xCFFD =
      0x00 ∧ t.readByte 0xCFFC = 0x66 ∧ t.iElapsed = 11) = true := by decide

/-! ### The memory map (95_test_vectors.md section 2.2) -/

/-- The map's machine: slot 0 page 0 reads 0x00 at offset 0, slot 2 has four pages, and the monitor starts with 0xC3. -/
def mapped (io sub : Byte) : State :=
  { State.reset with
    ioByte := io
    subPage := sub
    cfg := { Config.reference with nSub := [1, 1, 4, 1, 1, 1, 1, 1] }
    monitorRom := [(0, 0xC3), (0x1FFF, 0xEE)]
    rom := [(romIndex 0 0 0, 0x00), (romIndex 2 0 0, 0x20), (romIndex 2 1 0, 0x21), (romIndex 3 0 0, 0x30)] }

/-- M1: the entries of ROM+RAM mode. -/
theorem test_m1_read_table : (List.range 8).map (mapped 0x00 0).readTable =
    [.mon, .rom 0 0, .ram 2 0, .ram 2 1, .ram 1 0, .ram 1 1, .ram 0 0, .ram 0 1] := by decide

theorem test_m1_monitor : (mapped 0x00 0).readByte 0x0000 = 0xC3 ∧ (mapped 0x00 0).readByte 0x1FFF = 0xEE := by decide

/-- M2: a CPU write into the monitor's window sets the sub-page register. -/
theorem test_m2_sub_page : ((mapped 0x00 0).writeByte 0x1234 0x01).subPage = 0x01 ∧
    ((mapped 0x00 0).writeByte 0x1234 0x01).readByte 0x1234 = 0xFF ∧
    ((mapped 0x00 0).writeByte 0x1234 0x01).readByte 0x0000 = 0xC3 := by decide

/-- M3 to M5: slot 2 shows the sub-page, an absent page reads 0xFF, and slot 3 shows page 0. -/
theorem test_m3_slot_pages : (mapped 0x20 1).readByte 0x2000 = 0x21 ∧ (mapped 0x20 5).readByte 0x2000 = 0xFF ∧
    (mapped 0x30 1).readByte 0x2000 = 0x30 := by decide

/-- M6: a disabled slot reads 0xFF. -/
theorem test_m6_mask : ((mapped 0x20 1).setRomEnableMask 0xFB).readByte 0x2000 = 0xFF := by decide

/-- M7, M8: a CPU write to ROM is discarded, and `internalWrite` reaches it. -/
theorem test_m7_rom_write : ((mapped 0x00 0).writeByte 0x2000 0x99).readByte 0x2000 = 0x00 ∧
    ((mapped 0x00 0).internalWrite 0x2000 0x99).readByte 0x2000 = 0x99 := by decide

/-- M9: window 3 is unmapped at low nibble 0xF. -/
theorem test_m9_quirk : ((mapped 0x0F 0).writeByte 0xC000 0x12).readByte 0xC000 = 0xFF := by decide

/-- M10, M15: RAM-only mode. -/
theorem test_m10_ram_only : (List.range 4).map (mapped 0x8F 0).ramMap = [none, none, none, some 0] ∧
    (List.range 4).map (mapped 0x80 0).ramMap = [some 1, some 2, some 3, some 0] := by decide

/-- M16: a word written across the top of memory. -/
theorem test_m16_wrap : ((mapped 0x00 0).writeWord 0xFFFF 0x1234).readByte 0xFFFF = 0x34 ∧
    ((mapped 0x00 0).writeWord 0xFFFF 0x1234).subPage = 0x12 ∧
    ((mapped 0x00 0).writeWord 0xFFFF 0x1234).readByte 0x0000 = 0xC3 := by decide

/-! ### The host's views (R44, R46, R47) -/

theorem test_iff_byte : ({ lab with cpu := { lab.cpu with iff1 := true, im := .im2, halted := true } } : State).iffByte =
    0x85 := by decide

theorem test_i_request : lab.iRequest = 0xFFFF ∧ lab.raiseMaskableInterrupt.iRequest = 0x0038 ∧
    lab.raiseMaskableInterrupt.raiseNonMaskableInterrupt.iRequest = 0x0066 := by decide

/-! ### One instruction as the next step runs it -/

theorem test_table_word : decodeTableWord 24 0x013412 = some (.ldBcNn 0x1234) ∧ decodeTableWord 8 0x76 = some .halt := by
  decide

theorem test_with_fetch_word : (State.reset.withFetchWord 24 0x013412).fetch.take 3 = [0x01, 0x34, 0x12] := by decide

/-! ### A state and operands that meet the hypotheses of each statement -/

/-- `lab` with code at PC, a stack pointer in RAM, and both port policies as given. -/
def running (code : List Byte) : State := placed { lab with cpu := { lab.cpu with sp := 0xD000 } } 0x8000 code

/-- The outcome goes on. -/
def goesOn (o : Outcome) : Bool :=
  match o with
  | .next _ => true
  | _ => false

/-- The pass of the run loop goes on. -/
def runsOn (r : RunResult) : Bool :=
  match r with
  | .running _ => true
  | _ => false

theorem goesOn_next (o : Outcome) (h : goesOn o = true) : ∃ t, o = .next t := by
  cases o with
  | next t => exact ⟨t, rfl⟩
  | fault r => cases h
  | refused r => cases h

theorem runsOn_running (r : RunResult) (h : runsOn r = true) : ∃ t, r = .running t := by
  cases r with
  | running t => exact ⟨t, rfl⟩
  | quit p t => cases h
  | fault r => cases h
  | refused r => cases h

/-- The pass of the run loop quits. -/
def quits (r : RunResult) : Bool :=
  match r with
  | .quit _ _ => true
  | _ => false

theorem quits_quit (r : RunResult) (h : quits r = true) : ∃ t pc, r = .quit pc t := by
  cases r with
  | quit pc t => exact ⟨t, pc, rfl⟩
  | running t => cases h
  | fault r => cases h
  | refused r => cases h

/-- A machine whose next step uses up ICount, and whose host then quits. -/
def quitting : State := { running [0x00] with iCount := 4, hostReplies := [{ answer 0 with result := 0xFFFE }] }

theorem test_meets_DecodeEncode : (Instr.callPeNn 0x9000).wellFormed = true := by decide

theorem test_meets_DecodedBytesAreEncodings :
    decode [0xFD, 0xCB, 0x80, 0x46, 0x00] = .ok (.bit0MemIyd 0x80, [0x00]) := by rfl

theorem test_meets_UndocumentedEncodings_cb : ∀ op ∈ ([0x30, 0x37] : List Byte), 0x30 ≤ op.toNat ∧ op.toNat ≤ 0x37 := by
  decide

theorem test_meets_UndocumentedEncodings_ed : ∀ op ∈ ([0x00, 0x3F, 0x80, 0x9F, 0xC0, 0xFD, 0xFF, 0xA4, 0xBF] : List Byte),
    op.toNat < 0x40 ∨ (0x80 ≤ op.toNat ∧ op.toNat < 0xA0) ∨ (0xC0 ≤ op.toNat ∧ op ≠ 0xFE) ∨
      (0xA0 ≤ op.toNat ∧ op.toNat < 0xC0 ∧ 4 ≤ op.toNat % 8) := by decide

theorem test_meets_UndocumentedEncodings_index : ∀ op ∈ ([0x00, 0x44, 0x76, 0x80, 0xDD, 0xFF] : List Byte),
    op ∉ ([0x09, 0x19, 0x21, 0x22, 0x23, 0x29, 0x2A, 0x2B, 0x34, 0x35, 0x36, 0x39, 0xCB, 0xE1, 0xE3, 0xE5, 0xE9,
      0xF9] : List Byte) ∧ ¬(op.toNat / 64 = 1 ∧ op.toNat % 8 = 6 ∧ op.toNat / 8 % 8 ≠ 6) ∧
      ¬(op.toNat / 8 = 0x0E ∧ op.toNat % 8 ≠ 6) ∧ ¬(op.toNat / 64 = 2 ∧ op.toNat % 8 = 6) := by decide

theorem test_meets_UndocumentedEncodings_xycb : ∀ op ∈ ([0x00, 0x07, 0x36, 0xFF] : List Byte),
    op.toNat % 8 ≠ 6 ∨ op = 0x36 := by decide

theorem test_meets_StepRunsDecoded : (running [0x3E, 0x42]).undisturbed ∧ (running [0x3E, 0x42]).cpu.halted = false ∧
    (Instr.ldAN 0x42).wellFormed = true ∧ (running [0x3E, 0x42]).fetch = encode (.ldAN 0x42) ++ [0xFF, 0xFF] := by decide

/-- An undocumented encoding under the strict policy, with the host's answer. -/
def warned (abort : Bool) : State :=
  { running [0xCB, 0x30] with
    cfg := { Config.reference with opcodePolicy := .strict }
    hostReplies := [{ answer 0 with abort := abort }] }

theorem test_meets_UndocumentedStep : (running [0xCB, 0x30]).undisturbed ∧ (running [0xCB, 0x30]).cpu.halted = false ∧
    (running [0xCB, 0x30]).cfg.opcodePolicy = .permissive ∧ (warned true).undisturbed ∧ (warned true).cpu.halted = false ∧
    (warned true).cfg.opcodePolicy = .strict ∧
    ((warned true).hostReply (.opcodeWarning (warned true).cpu)).abort = true ∧
    ((warned false).hostReply (.opcodeWarning (warned false).cpu)).abort = false := by decide

theorem test_meets_UndocumentedStep_decode : decode (running [0xCB, 0x30]).fetch = .error (.undocumented [0xCB, 0x30]) ∧
    decode (warned true).fetch = .error (.undocumented [0xCB, 0x30]) ∧
    decode (warned false).fetch = .error (.undocumented [0xCB, 0x30]) := by
  have h1 : (running [0xCB, 0x30]).fetch = [0xCB, 0x30, 0xFF, 0xFF] := by decide
  have h2 : (warned true).fetch = [0xCB, 0x30, 0xFF, 0xFF] := by decide
  have h3 : (warned false).fetch = [0xCB, 0x30, 0xFF, 0xFF] := by decide
  rw [h1, h2, h3]
  exact ⟨rfl, rfl, rfl⟩

/-- A halted CPU past a `HALT` at 0x8000. -/
def halted : State :=
  let s := running [0x76]
  { s with cpu := { s.cpu with halted := true, pc := 0x8001 } }

theorem test_meets_HaltedSteps : halted.undisturbed ∧ halted.cpu.halted = true ∧ halted.iElapsed + 4 < 2 ^ 64 ∧
    goesOn (step halted) = true ∧ goesOn (step { halted with nmiPending := true }) = true := by decide

theorem test_meets_NmiAcceptance : ({ halted with nmiPending := true } : State).nmiPending = true ∧
    ({ halted with nmiPending := true } : State).iElapsed + 11 < 2 ^ 64 := by decide

/-- A machine at which a maskable request is accepted in mode `m`. -/
def requested (m : IntMode) (r : HostReply) : State :=
  let s := running [0x3E, 0x42]
  { s with cpu := { s.cpu with iff1 := true, iff2 := true, im := m, i := 0xC0 }, intPending := true, hostReplies := [r] }

theorem test_meets_MaskableAcceptance : (requested .im0 declined).acceptsMaskable ∧
    (requested .im0 declined).cpu.im ≠ .im2 ∧ (requested .im1 declined).acceptsMaskable ∧
    (requested .im1 declined).cpu.im ≠ .im2 ∧ (requested .im2 (answer 0x10)).acceptsMaskable ∧
    (requested .im2 (answer 0x10)).cpu.im = .im2 ∧
    ((requested .im2 (answer 0x10)).hostReply (.acknowledge (requested .im2 (answer 0x10)).cpu)).accept = true ∧
    (requested .im2 (answer 0x10)).iElapsed + 19 < 2 ^ 64 := by decide

/-- The declined acknowledge of a halted CPU. -/
def declinedHalted : State :=
  let s := requested .im2 declined
  { s with cpu := { s.cpu with halted := true } }

/-- The declined acknowledge under the strict policy. -/
def declinedStrict : State :=
  { requested .im2 declined with cfg := { Config.reference with ackPolicy := .strict } }

/-- The declined acknowledge before an undocumented encoding, under the strict opcode policy; `b` is the answer abort. -/
def declinedUndocumented (b : Bool) : State :=
  let s := running [0xED, 0x00]
  { s with
    cpu := { s.cpu with iff1 := true, iff2 := true, im := .im2, i := 0xC0 }
    intPending := true
    hostReplies := [declined, { answer 0 with abort := b }]
    cfg := { Config.reference with opcodePolicy := .strict } }

theorem test_meets_DeclinedAcknowledge : (requested .im2 declined).acknowledgeDeclined ∧
    (requested .im2 declined).cfg.ackPolicy = .permissive ∧ (requested .im2 declined).cpu.halted = false ∧
    (requested .im2 declined).fetch = encode (.ldAN 0x42) ++ [0xFF, 0xFF] ∧ declinedHalted.acknowledgeDeclined ∧
    declinedHalted.cfg.ackPolicy = .permissive ∧ declinedHalted.cpu.halted = true ∧
    declinedStrict.acknowledgeDeclined ∧ declinedStrict.cfg.ackPolicy = .strict ∧
    (declinedUndocumented true).acknowledgeDeclined ∧ (declinedUndocumented true).cfg.opcodePolicy = .strict ∧
    (declinedUndocumented true).cpu.halted = false := by decide

theorem declinedUndocumented_fetch : (declinedUndocumented true).fetch = [0xED, 0x00, 0xFF, 0xFF] := by decide

/-- The remaining premises of `DeclinedAcknowledge`: an undocumented encoding, and each answer to its warning. -/
theorem test_meets_DeclinedAcknowledge_undocumented :
    decode (declinedUndocumented true).fetch = .error (.undocumented [0xED, 0x00]) := by
  rw [declinedUndocumented_fetch]
  rfl

theorem test_meets_DeclinedAcknowledge_warned (b : Bool) : (({ declinedUndocumented b with
    hostReplies := (declinedUndocumented b).hostReplies.tail } : State).hostReply
      (.opcodeWarning (declinedUndocumented b).cpu)).abort = b := rfl

/-- Whether the outcome is `IllegalOpcode` with a record in which the maskable request is still pending and no call was made. -/
def isPreciseIllegalOpcode (o : Outcome) : Bool :=
  match o with
  | .fault (.illegalOpcode _ _ before) => before.intPending && before.hostLog == []
  | _ => false

/-- A fault after a declined acknowledge records the state before the step (R501). -/
theorem test_declined_fault_is_precise : isPreciseIllegalOpcode (step (declinedUndocumented true)) = true := by decide

theorem test_meets_EiDelayOnlyAfterEi : ∃ t, step (running [0xFB]) = .next t := goesOn_next _ (by decide)

theorem test_meets_RequestsStayPending :
    (∃ t, step ({ running [0x00] with intPending := true } : State) = .next t) ∧
    ∃ t, step ({ running [0x00] with nmiPending := true } : State) = .next t :=
  ⟨goesOn_next _ (by decide), goesOn_next _ (by decide)⟩

theorem test_meets_EveryStepChargesBothCounters : State.reset.cfg.valid = true ∧ ∃ t, step State.reset = .next t :=
  ⟨by decide, goesOn_next _ (by decide)⟩

/-- A machine that accepts an NMI while the bytes of `PATCH` stand at PC. -/
def interruptedPatch : State := { running [0xED, 0xFE] with nmiPending := true }

theorem test_meets_RomIsReadOnlyToTheCpu : (∃ t, step (running [0x77]) = .next t) ∧
    ¬ (((running [0x77]).undisturbed ∨ (running [0x77]).acknowledgeDeclined) ∧ (running [0x77]).cpu.halted = false ∧
      ∃ rest, (running [0x77]).fetch = encode .patch ++ rest) := by
  refine ⟨goesOn_next _ (by decide), fun ⟨_, _, rest, h⟩ => ?_⟩
  have h' : (running [0x77]).fetch.head? = some 0xED := by rw [h]; rfl
  revert h'
  decide

theorem test_meets_RomIsReadOnlyToTheCpu_interrupted : (∃ t, step interruptedPatch = .next t) ∧
    interruptedPatch.fetch = encode .patch ++ [0xFF, 0xFF] ∧
    ¬ ((interruptedPatch.undisturbed ∨ interruptedPatch.acknowledgeDeclined) ∧ interruptedPatch.cpu.halted = false ∧
      ∃ rest, interruptedPatch.fetch = encode .patch ++ rest) := by
  refine ⟨goesOn_next _ (by decide), by decide, fun ⟨h, _⟩ => ?_⟩
  have hn : interruptedPatch.nmiPending = true := rfl
  rcases h with h | h
  · exact Bool.false_ne_true (h.1.symm.trans hn)
  · exact Bool.false_ne_true (h.1.1.symm.trans hn)

theorem test_meets_StepKeepsWellFormed : State.reset.wellFormed ∧ ∃ t, step State.reset = .next t :=
  ⟨by decide, goesOn_next _ (by decide)⟩

theorem test_meets_StepKeepsMemoryInside : State.reset.cfg.valid = true ∧ State.reset.memoryInside ∧
    ∃ t, step State.reset = .next t :=
  ⟨by decide, ⟨nofun, nofun, nofun⟩, goesOn_next _ (by decide)⟩

theorem test_meets_EveryInstructionCompletes :
    ({ lab with cfg := { lab.cfg with portPolicy := .permissive } } : State).cfg.portPolicy = .permissive ∧
    (∀ b, b ∈ State.reset.cfg.portMapIn) ∧
    ∀ b, b = State.reset.cfg.ioBytePort ∨ b ∈ State.reset.cfg.portMapOut := by
  have hm : ∀ b : Byte, b ∈ (List.range 256).map (BitVec.ofNat 8) := fun b =>
    List.mem_map.mpr ⟨b.toNat, List.mem_range.mpr b.isLt, by simp⟩
  refine ⟨rfl, hm, fun b => ?_⟩
  have hc : (List.range 256).map (BitVec.ofNat 8) = 0x00 :: ((List.range 256).map (BitVec.ofNat 8)).tail := rfl
  exact List.mem_cons.mp (hc ▸ hm b)

theorem test_meets_Configure : (configure Config.reference 1000 [] [] []).isSome = true ∧
    (configure Config.reference 23 [] [] []).isSome = true ∧ (configure Config.reference (2 ^ 30) [] [] []).isSome = true ∧
    ({ Config.reference with ramBlockCount := 1 } : Config).ramBlockCount < 2 ∧
    Config.reference.maxBlocks < ({ Config.reference with ramBlockCount := 50 } : Config).ramBlockCount ∧
    8 < ({ Config.reference with nSub := List.replicate 9 1 } : Config).nSub.length ∧
    (∃ n ∈ ({ Config.reference with nSub := [257] } : Config).nSub, 256 < n) ∧ (22 : Int) < 23 ∧
    (∃ b ∈ ([(0x1000000, 0x00)] : Memory), romIndex 8 0 0 ≤ b.1) := by decide

/-- Images with a byte at the last place of each memory of the reference configuration. -/
theorem test_meets_Configure_images : Config.reference.valid = true ∧ Memory.wf [(0x1FFF, 0x00)] ∧
    Memory.wf [(0xE01FFF, 0x00)] ∧ Memory.wf [(0xFFFF, 0x00)] ∧
    MemoryInside Config.reference [(0x1FFF, 0x00)] [(0xE01FFF, 0x00)] [(0xFFFF, 0x00)] ∧
    ¬ MemoryInside Config.reference [(0x2000, 0x00)] [] [] := by
  refine ⟨by decide, by decide, by decide, by decide, ⟨by decide, fun b hb => ?_, by decide⟩, fun h => ?_⟩
  · rw [List.mem_singleton.mp hb]
    exact ⟨7, 0, 0x1FFF, by decide, by decide, by decide, by decide⟩
  · exact absurd (h.1 _ (List.mem_singleton.mpr rfl)) (by decide)

theorem test_meets_RunKeepsCountInRange : lab.cfg.valid = true ∧ periodOk lab.iPeriod = true ∧ lab.countInRange ∧
    ∃ t, runStep (running [0x00]) = .running t := ⟨by decide, by decide, by decide, runsOn_running _ (by decide)⟩

theorem test_meets_RunLosesNoCycle :
    ∃ t, runStep ({ running [0x00] with iCount := 2, hostReplies := [answer 0] } : State) = .running t :=
  runsOn_running _ (by decide)

theorem test_meets_RunKeepsCountInRange_quit : quitting.cfg.valid = true ∧ periodOk quitting.iPeriod = true ∧
    quitting.countInRange ∧ ∃ t pc, runStep quitting = .quit pc t :=
  ⟨by decide, by decide, by decide, quits_quit _ (by decide)⟩

theorem test_meets_RunLosesNoCycle_quit : ∃ t pc, runStep quitting = .quit pc t := quits_quit _ (by decide)

/-- A machine whose next step uses up ICount, and whose host writes IPeriod, or does not. -/
def periodEnds (p : Option Int) : State :=
  { running [0x00] with iCount := 4, hostReplies := [{ answer 0 with newPeriod := p }] }

/-- After the next step ICount is used up and the host's answer writes `p`. -/
def asksFor (s : State) (p : Option Int) : Bool :=
  match step s with
  | .next t => decide (t.iCount ≤ 0) && decide ((t.hostReply (.periodicCheck (t.iBackup - t.iCount) t.cpu)).newPeriod = p)
  | _ => false

theorem test_meets_PeriodicCheck : asksFor (periodEnds none) none = true ∧
    asksFor (periodEnds (some 23)) (some 23) = true ∧ asksFor (periodEnds (some (2 ^ 30))) (some (2 ^ 30)) = true ∧
    asksFor (periodEnds (some 22)) (some 22) = true ∧
    asksFor (periodEnds (some (2 ^ 30 + 1))) (some (2 ^ 30 + 1)) = true ∧
    (match step (running [0x00]) with | .next t => decide (0 < t.iCount) | _ => false) = true := by decide

theorem test_meets_PeriodicCheck_result : (0x0038 : Word) ≠ 0xFFFF ∧ (0x0038 : Word) ≠ 0xFFFE ∧ (0x0038 : Word) ≠ 0x0066 := by
  decide

theorem test_meets_MapTables : ((0 : Nat) ≤ 3 ∧ (3 : Nat) ≤ 3 ∧ (1 : Nat) ≤ 1) ∧ (mapped 0x00 0).ioByte.getLsbD 7 = false ∧
    (mapped 0x80 0).ioByte.getLsbD 7 = true := by decide

theorem test_meets_ByteAccess : (mapped 0x00 0).readTable 0 = .mon ∧ (mapped 0x20 1).readTable 1 = .rom 2 1 ∧
    (mapped 0x00 0).readTable 7 = .ram 0 1 ∧ (mapped 0x0F 0).readTable 6 = .high ∧
    (mapped 0x00 0).writeTable (entryOf 0xFFFF) = .ram 0 1 ∧ (mapped 0x00 0).writeTable (entryOf 0x2000) = .vapour ∧
    (mapped 0x00 0).writeTable (entryOf 0x1FFF) = .subpage ∧ (mapped 0x00 0).slot ≠ 2 := by decide

theorem test_meets_InternalAccess : (mapped 0x0F 0).updateTable (entryOf 0xC000) = .vapour := by decide

theorem test_meets_WordsAndStack : lab.writeTable (entryOf (lab.cpu.sp - 1)) = .ram 0 1 ∧
    lab.writeTable (entryOf (lab.cpu.sp - 2)) = .ram 0 1 ∧ ¬ lab.touches (lab.cpu.sp - 2) (lab.cpu.sp - 1) := by
  refine ⟨by decide, by decide, ?_⟩
  unfold State.touches
  have h : lab.writeTable (entryOf (lab.cpu.sp - 2)) = .ram 0 1 := by decide
  rw [h]
  decide

theorem test_meets_ReferenceRamMap : (2 : Nat) ≤ 2 ∧ (49 : Nat) ≤ 49 ∧ (15 : Nat) < 16 ∧ (3 : Nat) < 4 := by decide

theorem test_meets_BlockTransfer :
    (.lddr, -1, true) ∈ ([(.ldi, 1, false), (.ldir, 1, true), (.ldd, -1, false), (.lddr, -1, true)] :
      List (Instr × Word × Bool)) ∧ lab.bc - 1 ≠ 0 ∧
    ({ lab with cpu := { lab.cpu with main := { lab.cpu.main with c := 1 } } } : State).bc - 1 = 0 := by decide

theorem test_meets_BlockSearch :
    (.cpdr, -1, true) ∈ ([(.cpi, 1, false), (.cpir, 1, true), (.cpd, -1, false), (.cpdr, -1, true)] :
      List (Instr × Word × Bool)) ∧ lab.bc - 1 ≠ 0 ∧ lab.cpu.main.a ≠ lab.readByte lab.hl ∧
    ({ lab with cpu := { lab.cpu with main := { lab.cpu.main with a := 0xFF } } } : State).cpu.main.a =
      lab.readByte lab.hl := by decide

theorem test_meets_AddAndSubtract : AluOp.cp ≠ .and ∧ AluOp.cp ≠ .xor ∧ AluOp.cp ≠ .or := by decide

theorem test_meets_LogicOperations : AluOp.xor = .and ∨ AluOp.xor = .xor ∨ AluOp.xor = .or := by decide

theorem test_add8_and_sub8 :
    IsAdd8 ⟨true, false, false, true, false, true, false, false⟩ 0x80 0x7F 0x00 true ∧
    IsSub8 ⟨false, false, false, true, false, true, true, false⟩ 0x7F 0x80 0x01 false ∧
    IsAdd8 ⟨false, true, false, true, false, false, false, true⟩ 0x00 0xFF 0x01 false := by decide

/-- `lab` with C set. -/
def carrying : State :=
  { lab with cpu := { lab.cpu with main := { lab.cpu.main with f := { lab.cpu.main.f with c := true } } } }

theorem test_meets_OverflowIsSigned :
    (AluOp.add = .add ∧ (0 : Nat) = 0 ∨ AluOp.add = .adc ∧ 0 = carrying.cpu.main.f.c.toNat) ∧
    (AluOp.adc = .add ∧ (1 : Nat) = 0 ∨ AluOp.adc = .adc ∧ 1 = carrying.cpu.main.f.c.toNat) ∧
    (AluOp.sub = .sub ∧ (0 : Nat) = 0 ∨ AluOp.sub = .sbc ∧ 0 = carrying.cpu.main.f.c.toNat) ∧
    (AluOp.sbc = .sub ∧ (1 : Nat) = 0 ∨ AluOp.sbc = .sbc ∧ 1 = carrying.cpu.main.f.c.toNat) := by decide

theorem test_meets_DecimalAddition : (99 : Nat) < 100 ∧
    (∃ t u, exec (.aluReg .add .b)
        ({ lab with cpu := { lab.cpu with main := { lab.cpu.main with a := 0x99, b := 0x99 } } } : State) = .next t ∧
      exec .daa t = .next u) ∧
    (0x99 : Byte) = BitVec.ofNat 8 (16 * (99 / 10) + 99 % 10) := ⟨by decide, ⟨_, _, rfl, rfl⟩, by decide⟩

theorem test_meets_PatchTrap :
    ({ lab with hostReplies := [answer 0] } : State).hostReply
      (.patch { lab.cpu with pc := lab.cpu.pc + 2 }) = answer 0 ∧ (answer 0).actions = [] := by decide

theorem test_meets_RotateAccumulator :
    (.rra, .rr) ∈ ([(.rlca, .rlc), (.rla, .rl), (.rrca, .rrc), (.rra, .rr)] : List (Instr × RotOp)) := by decide

theorem test_meets_Jumps : condHolds lab.cpu.main.f .nz ∧ ¬ condHolds lab.cpu.main.f .z ∧ lab.cpu.main.b ≠ 1 ∧
    ({ lab with cpu := { lab.cpu with main := { lab.cpu.main with b := 1 } } } : State).cpu.main.b = 1 :=
  ⟨rfl, nofun, by decide, by decide⟩

theorem test_meets_CallsAndRestarts : condHolds lab.cpu.main.f .p ∧ ¬ condHolds lab.cpu.main.f .m := ⟨rfl, nofun⟩

theorem test_meets_Returns : condHolds lab.cpu.main.f .po ∧ ¬ condHolds lab.cpu.main.f .pe := ⟨rfl, nofun⟩

/-- `lab` with the port policy permissive. -/
def permissive : State := { lab with cfg := { lab.cfg with portPolicy := .permissive } }

theorem test_meets_InputForms : (0x10 : Byte) ∈ lab.cfg.portMapIn ∧ permissive.cfg.portPolicy = .permissive ∧
    (0x55 : Byte) ∉ permissive.cfg.portMapIn ∧ (0x55 : Byte) ∉ lab.cfg.portMapIn ∧ lab.cfg.portPolicy = .strict := by decide

theorem test_meets_OutputForms : (0x00 : Byte) = lab.cfg.ioBytePort ∧ (0x20 : Byte) ∈ lab.cfg.portMapOut ∧
    permissive.cfg.portPolicy = .permissive ∧ (0x55 : Byte) ≠ lab.cfg.ioBytePort ∧ (0x55 : Byte) ∉ lab.cfg.portMapOut ∧
    lab.cfg.portPolicy = .strict := by decide

/-- `lab` with BC as given. -/
def counted (b c : Byte) : State := { lab with cpu := { lab.cpu with main := { lab.cpu.main with b := b, c := c } } }

theorem test_meets_BlockInput :
    (.indr, -1, true) ∈ ([(.ini, 1, false), (.inir, 1, true), (.ind, -1, false), (.indr, -1, true)] :
      List (Instr × Word × Bool)) ∧ (counted 2 0x10).cpu.main.c ∈ (counted 2 0x10).cfg.portMapIn ∧
    (counted 2 0x10).cpu.main.b ≠ 1 ∧ (counted 1 0x10).cpu.main.b = 1 ∧
    (counted 2 0x55).cpu.main.c ∉ lab.cfg.portMapIn ∧ (counted 2 0x55).cfg.portPolicy = .strict := by decide

theorem test_meets_BlockOutput :
    (.otdr, -1, true) ∈ ([(.outi, 1, false), (.otir, 1, true), (.outd, -1, false), (.otdr, -1, true)] :
      List (Instr × Word × Bool)) ∧ (counted 2 0x20).cpu.main.c ∈ (counted 2 0x20).cfg.portMapOut ∧
    (counted 2 0x00).cpu.main.c = lab.cfg.ioBytePort ∧ (counted 2 0x20).cpu.main.b ≠ 1 ∧
    (counted 1 0x20).cpu.main.b = 1 ∧ (counted 2 0x55).cpu.main.c ≠ lab.cfg.ioBytePort ∧
    (counted 2 0x55).cpu.main.c ∉ lab.cfg.portMapOut ∧ (counted 2 0x55).cfg.portPolicy = .strict := by decide

end Sys2Proof.Tests
end

/-! SUPPORT. What every step keeps of the machine `configure` made, once per way a step can go (`step_cases`), and the
invariant `State.wellFormed` from it. -/

namespace Sys2Proof.Machine

/-- What every step keeps of the machine `configure` made: the configuration, IPeriod, canonical memories and every byte in its
place. -/
structure KeepsMachine (s t : State) : Prop where
  cfg : t.cfg = s.cfg
  iPeriod : t.iPeriod = s.iPeriod
  memoryWf : s.memoryWf → t.memoryWf
  memoryInside : s.cfg.valid = true → s.memoryInside → t.memoryInside

theorem KeepsMachine.trans {s t u : State} (h : KeepsMachine s t) (k : KeepsMachine t u) : KeepsMachine s u where
  cfg := k.cfg.trans h.cfg
  iPeriod := k.iPeriod.trans h.iPeriod
  memoryWf := k.memoryWf ∘ h.memoryWf
  memoryInside hv hs := k.memoryInside (h.cfg ▸ hv) (h.memoryInside hv hs)

theorem KeepsRom.keepsMachine {s t : State} (h : KeepsRom s t) (hp : t.iPeriod = s.iPeriod) : KeepsMachine s t :=
  ⟨h.cfg, hp, h.memoryWf, h.memoryInside⟩

theorem Routine.keepsMachine {s t : State} (h : Routine s t) : KeepsMachine s t := by
  obtain ⟨_, _, _, _, _, hperiod, _⟩ := h.charged
  exact ⟨h.cfg, hperiod, h.memoryWf, h.memoryInside⟩

/-! ### Instructions and the idle step -/

theorem exec_keepsMachine {i : Instr} {s t : State} (h : exec i s = .next t) : KeepsMachine s t := by
  by_cases hp : i = .patch
  · subst hp
    obtain ⟨u, e, _, hcfg, hwf, hin, ⟨_, _, hperiod, _⟩, _⟩ := hostPatch_spec s
    cases e.symm.trans h
    exact ⟨hcfg, hperiod, hwf, hin⟩
  by_cases he : i = .ei
  · subst he
    obtain ⟨u, e, _, hm, ⟨_, _, hperiod, _⟩, _⟩ := enableInterrupts_spec s
    cases e.symm.trans h
    exact hm.keepsRom.keepsMachine hperiod
  rcases exec_routine i s hp he with ⟨u, e, hr⟩ | ⟨_, _, r, e⟩
  · cases e.symm.trans h
    exact hr.keepsMachine
  · cases e.symm.trans h

theorem State.idle_keepsMachine (s : State) : KeepsMachine s s.idle := ⟨rfl, rfl, id, fun _ => id⟩

theorem State.phase3_keepsMachine {s t : State} (h : s.phase3 = .next t) : KeepsMachine s t := by
  rcases s.phase3_cases t h with ⟨_, rfl⟩ | ⟨_, i, rest, _, he⟩
  · exact s.idle_keepsMachine
  · exact exec_keepsMachine he

/-! ### Interrupt acceptance -/

theorem State.afterCall_keepsMachine (s : State) (ev : HostEvent) : KeepsMachine s (s.afterCall ev) :=
  ⟨rfl, rfl, id, fun _ => id⟩

theorem State.dropRequest_keepsMachine (s : State) : KeepsMachine s s.dropRequest := ⟨rfl, rfl, id, fun _ => id⟩

/-- An acceptance drops its request before it takes the interrupt: `s` is the state `r` at the boundary without that request, and
the push writes the memory that `r` has. -/
theorem State.takeInterrupt_keepsMachine (r s : State) (iff1 iff2 : Bool) (target : State → Word) (cost : Nat)
    (hm : s.sameMemory r) (hsp : s.cpu.sp = r.cpu.sp) (hp : s.iPeriod = r.iPeriod) :
    KeepsMachine r ((s.takeInterrupt iff1 iff2 target).endStep cost) := by
  obtain ⟨_, hpush, ⟨_, _, hperiod, _⟩, _⟩ := s.takeInterrupt_spec iff1 iff2 target cost
  exact (hpush r hm hsp).keepsRom.keepsMachine (hperiod.trans hp)

theorem State.acceptNmi_keepsMachine (s : State) : KeepsMachine s s.acceptNmi :=
  s.takeInterrupt_keepsMachine _ _ _ _ _ ⟨rfl, rfl, rfl, rfl, rfl, rfl, rfl⟩ rfl rfl

theorem State.acceptFixed_keepsMachine (s : State) : KeepsMachine s s.acceptFixed :=
  s.takeInterrupt_keepsMachine _ _ _ _ _ ⟨rfl, rfl, rfl, rfl, rfl, rfl, rfl⟩ rfl rfl

theorem State.acceptVectored_keepsMachine (s : State) (v : Byte) : KeepsMachine s (s.acceptVectored v) :=
  s.takeInterrupt_keepsMachine _ _ _ _ _ ⟨rfl, rfl, rfl, rfl, rfl, rfl, rfl⟩ rfl rfl

/-! ### The step -/

theorem step_keepsMachine {s t : State} (h : step s = .next t) : KeepsMachine s t := by
  obtain ⟨_, ⟨_, rfl⟩ | ⟨_, _, rfl⟩ | ⟨_, _, _, rfl⟩ | ⟨_, _, hp3⟩ | ⟨_, hp3⟩⟩ := step_cases s t h
  · exact s.acceptNmi_keepsMachine
  · exact s.acceptFixed_keepsMachine
  · exact (s.afterCall_keepsMachine _).trans (State.acceptVectored_keepsMachine _ _)
  · exact ((s.afterCall_keepsMachine _).trans (State.dropRequest_keepsMachine _)).trans (State.phase3_keepsMachine hp3)
  · exact State.phase3_keepsMachine hp3

/-- Settles O15: the memories, the configuration and IPeriod by `step_keepsMachine`, and the bound on IElapsed by the guard that
ends every step. -/
theorem stepKeepsWellFormed : Obligations.StepKeepsWellFormed := by
  intro s t ⟨hwf, hvalid, hperiod, _⟩ h
  have hk := step_keepsMachine h
  exact ⟨hk.memoryWf hwf, hk.cfg ▸ hvalid, hk.iPeriod ▸ hperiod, (step_cases s t h).1⟩

end Sys2Proof.Machine

/-! SUPPORT. Only `ED FE` decodes to `PATCH` (R163): page by page, no other branch of the decoder gives it. -/
namespace Sys2Proof

/-- The decoder found another instruction than `PATCH`, or none. -/
def PatchFree : DecodeResult → Prop
  | .ok (i, _) => i ≠ .patch
  | .error _ => True

@[simp] theorem patchFree_error (e : DecodeError) : PatchFree (.error e) := trivial

@[simp] theorem patchFree_plain (i : Instr) (t : List Byte) : PatchFree (plain i t) ↔ i ≠ .patch := Iff.rfl

theorem patchFree_withByte {f : Byte → Instr} (h : ∀ n, f n ≠ .patch) (t : List Byte) : PatchFree (withByte f t) := by
  cases t with
  | nil => trivial
  | cons n t => exact h n

theorem patchFree_withWord {f : Word → Instr} (h : ∀ nn, f nn ≠ .patch) (t : List Byte) : PatchFree (withWord f t) := by
  match t with
  | [] | [_] => trivial
  | lo :: hi :: _ => exact h (joinBytes hi lo)

theorem patchFree_withTwo {f : Byte → Byte → Instr} (h : ∀ m n, f m n ≠ .patch) (t : List Byte) :
    PatchFree (withTwo f t) := by
  match t with
  | [] | [_] => trivial
  | m :: n :: _ => exact h m n

/-! ### The forms of an instruction by its operand -/

@[simp] theorem Instr.pairForms_ne_patch (p : Pair) :
    (∀ nn, ldPairImm p nn ≠ patch) ∧ (∀ nn, ldMemPair p nn ≠ patch) ∧ (∀ nn, ldPairMem p nn ≠ patch) ∧
      incPair p ≠ patch ∧ decPair p ≠ patch ∧ addHlPair p ≠ patch ∧ adcHlPair p ≠ patch ∧ sbcHlPair p ≠ patch := by
  cases p <;> simp [ldPairImm, ldMemPair, ldPairMem, incPair, decPair, addHlPair, adcHlPair, sbcHlPair]

@[simp] theorem Instr.stackForms_ne_patch (q : PairQ) : popPair q ≠ patch ∧ pushPair q ≠ patch := by
  cases q <;> simp [popPair, pushPair]

@[simp] theorem Instr.regForms_ne_patch (r : Reg8) :
    (∀ n, ldRegImm r n ≠ patch) ∧ incReg r ≠ patch ∧ decReg r ≠ patch ∧ ldRegMemHl r ≠ patch ∧ ldMemHlReg r ≠ patch ∧
      inRegPortC r ≠ patch ∧ outPortCReg r ≠ patch := by
  cases r <;> simp [ldRegImm, incReg, decReg, ldRegMemHl, ldMemHlReg, inRegPortC, outPortCReg]

@[simp] theorem Instr.ldRegReg_ne_patch (r q : Reg8) : ldRegReg r q ≠ patch := by
  cases r <;> cases q <;> simp [ldRegReg]

@[simp] theorem Instr.aluForms_ne_patch (op : AluOp) :
    (∀ r, aluReg op r ≠ patch) ∧ (∀ n, aluImm op n ≠ patch) ∧ aluMemHl op ≠ patch := by
  refine ⟨fun r => ?_, fun n => ?_, ?_⟩
  · cases op <;> cases r <;> simp [aluReg]
  · cases op <;> simp [aluImm]
  · cases op <;> simp [aluMemHl]

@[simp] theorem Instr.condForms_ne_patch (cc : Cond) :
    (∀ nn, jpIf cc nn ≠ patch) ∧ (∀ nn, callIf cc nn ≠ patch) ∧ retIf cc ≠ patch := by
  cases cc <;> simp [jpIf, callIf, retIf]

@[simp] theorem Instr.jrIf_ne_patch (cc : JrCond) (e : Byte) : jrIf cc e ≠ patch := by
  cases cc <;> simp [jrIf]

@[simp] theorem Instr.rotForms_ne_patch (k : RotOp) : (∀ r, rotReg k r ≠ patch) ∧ rotMemHl k ≠ patch := by
  refine ⟨fun r => ?_, ?_⟩
  · cases k <;> cases r <;> simp [rotReg]
  · cases k <;> simp [rotMemHl]

@[simp] theorem Instr.bitForms_ne_patch (b : Fin 8) :
    (∀ r, bitReg b r ≠ patch) ∧ (∀ r, resReg b r ≠ patch) ∧ (∀ r, setReg b r ≠ patch) ∧
      bitMemHl b ≠ patch ∧ resMemHl b ≠ patch ∧ setMemHl b ≠ patch ∧ rst b ≠ patch := by
  fin_cases b <;> (refine ⟨?_, ?_, ?_, nofun, nofun, nofun, nofun⟩ <;> rintro ⟨⟩ <;> exact nofun)

@[simp] theorem Instr.indexForms_ne_patch (x : IndexReg) :
    (∀ p, addIndexPair x p ≠ patch) ∧ (∀ nn, ldIndexImm x nn ≠ patch) ∧ (∀ nn, ldMemIndex x nn ≠ patch) ∧
      (∀ nn, ldIndexMem x nn ≠ patch) ∧ incIndex x ≠ patch ∧ decIndex x ≠ patch ∧ popIndex x ≠ patch ∧
      pushIndex x ≠ patch ∧ exMemSpIndex x ≠ patch ∧ jpIndex x ≠ patch ∧ ldSpIndex x ≠ patch := by
  refine ⟨fun p => ?_, ?_⟩
  · cases x <;> cases p <;> simp [addIndexPair]
  · cases x <;> simp [ldIndexImm, ldMemIndex, ldIndexMem, incIndex, decIndex, popIndex, pushIndex, exMemSpIndex, jpIndex,
      ldSpIndex]

@[simp] theorem Instr.memIndexedForms_ne_patch (x : IndexReg) (d : Byte) :
    (∀ r, ldRegIndexed x r d ≠ patch) ∧ (∀ r, ldIndexedReg x r d ≠ patch) ∧ (∀ op, aluIndexed x op d ≠ patch) ∧
      (∀ n, ldIndexedImm x d n ≠ patch) ∧ incIndexed x d ≠ patch ∧ decIndexed x d ≠ patch := by
  refine ⟨fun r => ?_, fun r => ?_, fun op => ?_, fun n => ?_, ?_, ?_⟩
  · cases x <;> cases r <;> simp [ldRegIndexed]
  · cases x <;> cases r <;> simp [ldIndexedReg]
  · cases x <;> cases op <;> simp [aluIndexed]
  · cases x <;> simp [ldIndexedImm]
  · cases x <;> simp [incIndexed]
  · cases x <;> simp [decIndexed]

@[simp] theorem Instr.cbIndexedForms_ne_patch (x : IndexReg) (d : Byte) :
    (∀ k, rotIndexed x k d ≠ patch) ∧ (∀ b, bitIndexed x b d ≠ patch) ∧ (∀ b, resIndexed x b d ≠ patch) ∧
      (∀ b, setIndexed x b d ≠ patch) := by
  refine ⟨fun k => ?_, fun b => ?_, fun b => ?_, fun b => ?_⟩
  · cases x <;> cases k <;> simp [rotIndexed]
  · cases x <;> fin_cases b <;> simp [bitIndexed]
  · cases x <;> fin_cases b <;> simp [resIndexed]
  · cases x <;> fin_cases b <;> simp [setIndexed]

/-! ### The pages of the decoder -/

theorem decodeMain0_patchFree (y z : Nat) (t : List Byte) : PatchFree (decodeMain0 y z t) := by
  unfold decodeMain0
  split <;> try split
  all_goals simp [patchFree_withByte, patchFree_withWord]

theorem decodeMain1_patchFree (y z : Nat) (t : List Byte) : PatchFree (decodeMain1 y z t) := by
  unfold decodeMain1
  split <;> simp

theorem decodeMain2_patchFree (y z : Nat) (t : List Byte) : PatchFree (decodeMain2 y z t) := by
  unfold decodeMain2
  split <;> simp

theorem decodeMain3_patchFree (y z : Nat) (t : List Byte) : PatchFree (decodeMain3 y z t) := by
  unfold decodeMain3
  split <;> try split
  all_goals simp [patchFree_withByte, patchFree_withWord]

theorem decodeMain_patchFree (op : Byte) (t : List Byte) : PatchFree (decodeMain op t) := by
  unfold decodeMain
  split
  · exact decodeMain0_patchFree ..
  · exact decodeMain1_patchFree ..
  · exact decodeMain2_patchFree ..
  · exact decodeMain3_patchFree ..

theorem decodeCb_patchFree (op : Byte) (t : List Byte) : PatchFree (decodeCb op t) := by
  unfold decodeCb
  dsimp only
  split <;> try split
  all_goals simp

theorem decodeEd1_patchFree (op : Byte) (t : List Byte) : PatchFree (decodeEd1 op t) := by
  unfold decodeEd1
  dsimp only
  split <;> try split
  all_goals simp [patchFree_withWord]

theorem decodeEd2_patchFree (op : Byte) (t : List Byte) : PatchFree (decodeEd2 op t) := by
  unfold decodeEd2
  split <;> simp

theorem decodeIndex0_patchFree (x : IndexReg) (op : Byte) (t : List Byte) : PatchFree (decodeIndex0 x op t) := by
  unfold decodeIndex0
  split <;> try split
  all_goals simp [patchFree_withByte, patchFree_withWord, patchFree_withTwo]

theorem decodeIndex1_patchFree (x : IndexReg) (op : Byte) (t : List Byte) : PatchFree (decodeIndex1 x op t) := by
  unfold decodeIndex1
  split <;> simp [patchFree_withByte]

theorem decodeIndex2_patchFree (x : IndexReg) (op : Byte) (t : List Byte) : PatchFree (decodeIndex2 x op t) := by
  unfold decodeIndex2
  split <;> simp [patchFree_withByte]

theorem decodeIndex3_patchFree (x : IndexReg) (op : Byte) (t : List Byte) : PatchFree (decodeIndex3 x op t) := by
  unfold decodeIndex3
  split <;> simp

theorem decodeIndexCb_patchFree (x : IndexReg) (d op : Byte) (t : List Byte) : PatchFree (decodeIndexCb x d op t) := by
  unfold decodeIndexCb
  dsimp only
  split <;> try split
  all_goals simp

theorem decodeIndex_patchFree (x : IndexReg) (t : List Byte) : PatchFree (decodeIndex x t) := by
  unfold decodeIndex
  split
  · trivial
  split
  · split
    · exact decodeIndexCb_patchFree ..
    · trivial
  split
  · exact decodeIndex0_patchFree ..
  · exact decodeIndex1_patchFree ..
  · exact decodeIndex2_patchFree ..
  · exact decodeIndex3_patchFree ..

theorem decodeEd_patchFree (op : Byte) (t : List Byte) (h : op ≠ 0xFE) : PatchFree (decodeEd op t) := by
  unfold decodeEd
  split
  · exact decodeEd1_patchFree ..
  · exact decodeEd2_patchFree ..
  · rw [if_neg h]
    trivial

/-- The only bytes that decode to `PATCH` are `ED FE` (R163). -/
theorem decode_patchFree (bytes : List Byte) (h : ∀ rest, bytes ≠ encode .patch ++ rest) : PatchFree (decode bytes) := by
  unfold decode
  split
  · trivial
  split
  · split
    · trivial
    · exact decodeCb_patchFree ..
  split
  · next hed =>
    split
    · trivial
    · next op t => exact decodeEd_patchFree _ _ fun hfe => h t (by rw [hed, hfe]; rfl)
  split
  · exact decodeIndex_patchFree ..
  split
  · exact decodeIndex_patchFree ..
  · exact decodeMain_patchFree ..

end Sys2Proof

/-! SUPPORT. What one step does around the registers and RAM, once for every way it can go (`step_cases`): either it executed
`PATCH`, or it kept the ROMs, the mask and the configuration; and one cost was charged. -/

namespace Sys2Proof.Machine

/-- Settles O58: each way a step can go writes memory by a path that keeps every byte in its place (`step_keepsMachine`). -/
theorem stepKeepsMemoryInside : Obligations.StepKeepsMemoryInside :=
  fun _ _ hv hin h => (step_keepsMachine h).memoryInside hv hin

/-- From `s` to `t` one cost of at most 23 cycles was charged (R512). -/
def ChargesCost (s t : State) : Prop := ∃ cost : Nat, cost ≤ 23 ∧ s.charged t cost

/-- What an acceptance, the idle step and every instruction but `PATCH` do: memory is written by the CPU's write path at most
(R84), and one cost is charged. -/
structure Ordinary (s t : State) : Prop where
  keepsRom : KeepsRom s t
  chargesCost : ChargesCost s t

/-- The step from `s` to `t` executed `PATCH`, at the cost the configuration gives it (R332). -/
structure ExecutesPatch (s t : State) : Prop where
  boundary : s.undisturbed ∨ s.acknowledgeDeclined
  awake : s.cpu.halted = false
  fetched : ∃ rest, s.fetch = encode .patch ++ rest
  charged : s.charged t s.cfg.patchCycles

/-- `u` is `s` but for the requests and the host's part: where an instruction or an acceptance begins, after the boundary at
`s`. -/
structure SameMachine (s u : State) : Prop where
  memory : u.sameMemory s
  cpu : u.cpu = s.cpu
  uncharged : s.charged u 0

theorem State.charged_after_uncharged {s t u : State} {cost : Nat} (h : s.charged t 0) (k : t.charged u cost) : s.charged u cost := by
  obtain ⟨hcount, helapsed, hperiod, hbackup⟩ := h
  obtain ⟨kcount, kelapsed, kperiod, kbackup⟩ := k
  exact ⟨by rw [kcount, hcount]; simp, by rw [kelapsed, helapsed]; rfl, kperiod.trans hperiod, kbackup.trans hbackup⟩

theorem KeepsRom.trans {s t u : State} (h : KeepsRom s t) (k : KeepsRom t u) : KeepsRom s u where
  monitorRom := k.monitorRom.trans h.monitorRom
  rom := k.rom.trans h.rom
  romEnableMask := k.romEnableMask.trans h.romEnableMask
  cfg := k.cfg.trans h.cfg
  memoryWf := k.memoryWf ∘ h.memoryWf
  memoryInside hv hs := k.memoryInside (h.cfg ▸ hv) (h.memoryInside hv hs)

theorem Routine.ordinary {s t : State} (h : Routine s t) : Ordinary s t where
  keepsRom := ⟨h.monitorRom, h.rom, h.romEnableMask, h.cfg, h.memoryWf, h.memoryInside⟩
  chargesCost :=
    let ⟨cost, _, h23, hc⟩ := h.charged
    ⟨cost, h23, hc⟩

theorem exec_ordinary {i : Instr} {s t : State} (hp : i ≠ .patch) (h : exec i s = .next t) : Ordinary s t := by
  by_cases he : i = .ei
  · subst he
    obtain ⟨u, e, _, hm, hc, _⟩ := enableInterrupts_spec s
    cases e.symm.trans h
    exact ⟨hm.keepsRom, 4, by decide, hc⟩
  rcases exec_routine i s hp he with ⟨u, e, hr⟩ | ⟨_, _, r, e⟩
  · cases e.symm.trans h
    exact hr.ordinary
  · cases e.symm.trans h

/-! ### The start of an instruction or an acceptance -/

theorem SameMachine.refl (s : State) : SameMachine s s :=
  ⟨⟨rfl, rfl, rfl, rfl, rfl, rfl, rfl⟩, rfl, by simp, rfl, rfl, rfl⟩

theorem SameMachine.withRequests {s u : State} (h : SameMachine s u) (int nmi : Bool) :
    SameMachine s { u with intPending := int, nmiPending := nmi } := ⟨h.memory, h.cpu, h.uncharged⟩

theorem SameMachine.afterCall {s u : State} (h : SameMachine s u) (ev : HostEvent) : SameMachine s (u.afterCall ev) :=
  ⟨h.memory, h.cpu, h.uncharged⟩

theorem SameMachine.dropRequest {s u : State} (h : SameMachine s u) : SameMachine s u.dropRequest :=
  ⟨h.memory, h.cpu, h.uncharged⟩

theorem SameMachine.fetch {s u : State} (h : SameMachine s u) : u.fetch = s.fetch := by
  simp only [State.fetch, h.cpu, State.sameMemory_readByte u s h.memory]

theorem SameMachine.ordinary {s u t : State} (h : SameMachine s u) (k : Ordinary u t) : Ordinary s t where
  keepsRom := (s.storesNothing_of u h.memory).keepsRom.trans k.keepsRom
  chargesCost :=
    let ⟨cost, h23, hc⟩ := k.chargesCost
    ⟨cost, h23, State.charged_after_uncharged h.uncharged hc⟩

/-! ### The ways a step can go -/

theorem State.idle_ordinary (s : State) : Ordinary s s.idle :=
  ⟨⟨rfl, rfl, rfl, rfl, id, fun _ => id⟩, 4, by decide, rfl, rfl, rfl, rfl⟩

theorem SameMachine.takeInterrupt_ordinary {s u : State} (h : SameMachine s u) (iff1 iff2 : Bool) (target : State → Word) {cost : Nat}
    (h23 : cost ≤ 23) : Ordinary s ((u.takeInterrupt iff1 iff2 target).endStep cost) := by
  obtain ⟨_, hpush, hcost, _⟩ := u.takeInterrupt_spec iff1 iff2 target cost
  exact ⟨(hpush s h.memory (by rw [h.cpu])).keepsRom, cost, h23, State.charged_after_uncharged h.uncharged hcost⟩

theorem SameMachine.acceptNmi_ordinary {s u : State} (h : SameMachine s u) : Ordinary s u.acceptNmi :=
  (h.withRequests u.intPending false).takeInterrupt_ordinary _ _ _ (by decide)

theorem SameMachine.acceptFixed_ordinary {s u : State} (h : SameMachine s u) : Ordinary s u.acceptFixed :=
  (h.withRequests false u.nmiPending).takeInterrupt_ordinary _ _ _ (by decide)

theorem SameMachine.acceptVectored_ordinary {s u : State} (h : SameMachine s u) (v : Byte) : Ordinary s (u.acceptVectored v) :=
  (h.withRequests false u.nmiPending).takeInterrupt_ordinary _ _ _ (by decide)

theorem State.fetch_patch {s : State} {rest : List Byte} (h : decode s.fetch = .ok (.patch, rest)) :
    ∃ rest, s.fetch = encode .patch ++ rest := by
  by_contra hn
  have hfree := decode_patchFree s.fetch (not_exists.mp hn)
  rw [h] at hfree
  exact hfree rfl

theorem SameMachine.phase3_ordinary_or_patch {s u t : State} (h : SameMachine s u) (hb : s.undisturbed ∨ s.acknowledgeDeclined)
    (hp : u.phase3 = .next t) : Ordinary s t ∨ ExecutesPatch s t := by
  rcases u.phase3_cases t hp with ⟨_, rfl⟩ | ⟨hawake, i, rest, hdec, hexec⟩
  · exact .inl (h.ordinary u.idle_ordinary)
  by_cases hi : i = .patch
  · subst hi
    obtain ⟨v, e, _, _, _, _, hc, _⟩ := hostPatch_spec u
    cases e.symm.trans hexec
    have hcfg : u.cfg = s.cfg := (s.storesNothing_of u h.memory).keepsRom.cfg
    exact .inr ⟨hb, h.cpu ▸ hawake, h.fetch ▸ State.fetch_patch hdec, State.charged_after_uncharged h.uncharged (hcfg ▸ hc)⟩
  · exact .inl (h.ordinary (exec_ordinary hi hexec))

theorem step_ordinary_or_patch {s t : State} (h : step s = .next t) : Ordinary s t ∨ ExecutesPatch s t := by
  have hs := SameMachine.refl s
  obtain ⟨_, ⟨_, rfl⟩ | ⟨_, _, rfl⟩ | ⟨_, _, _, rfl⟩ | ⟨hd, _, hp⟩ | ⟨hu, hp⟩⟩ := step_cases s t h
  · exact .inl hs.acceptNmi_ordinary
  · exact .inl hs.acceptFixed_ordinary
  · exact .inl ((hs.afterCall _).acceptVectored_ordinary _)
  · exact (hs.afterCall _).dropRequest.phase3_ordinary_or_patch (.inr hd) hp
  · exact hs.phase3_ordinary_or_patch (.inl hu) hp

/-- Settles O14: a step that is none of `PATCH` is ordinary, and keeps the ROMs and the mask. -/
theorem romIsReadOnlyToTheCpu : Obligations.RomIsReadOnlyToTheCpu := by
  intro s t h
  refine ⟨(step_keepsMachine h).cfg, fun hn => ?_⟩
  obtain ⟨hk, _⟩ | hp := step_ordinary_or_patch h
  · exact ⟨hk.monitorRom, hk.rom, hk.romEnableMask⟩
  · exact absurd ⟨hp.boundary, hp.awake, hp.fetched⟩ hn

end Sys2Proof.Machine

/-! SUPPORT. One pass of the run loop: the step's cost, the reload, and what the callback's result leaves. -/

namespace Sys2Proof.Machine

theorem patchCycles_le_of_valid {c : Config} (h : c.valid = true) : c.patchCycles ≤ 23 := by
  simp only [Config.valid, Config.patchCyclesOk, Bool.and_eq_true, decide_eq_true_eq] at h
  exact h.2

/-- Every step charges one cost: a valid configuration bounds that of `PATCH` too (R332, R512). -/
theorem step_chargesCost {s t : State} (hv : s.cfg.valid = true) (h : step s = .next t) : ChargesCost s t := by
  obtain ⟨_, hc⟩ | hp := step_ordinary_or_patch h
  · exact hc
  · exact ⟨_, patchCycles_le_of_valid hv, hp.charged⟩

/-- The loop goes on from `t`, or quits in it: a later `run` resumes from `t` (R515). -/
def RunResult.Leaves (r : RunResult) (t : State) : Prop := r = .running t ∨ ∃ pc, r = .quit pc t

theorem RunResult.leaves_running {s t : State} : (RunResult.running s).Leaves t ↔ t = s := by
  simp [RunResult.Leaves, eq_comm]

theorem RunResult.leaves_quit {s t : State} {pc : Word} : (RunResult.quit pc s).Leaves t ↔ t = s := by
  simp [RunResult.Leaves, eq_comm]

/-- The result of the callback can raise a request, and changes nothing else (R514). -/
theorem State.handleResult_leaves {s t : State} {v : Word} (h : (s.handleResult v).Leaves t) :
    ∃ int nmi, t = { s with intPending := int, nmiPending := nmi } := by
  unfold State.handleResult at h
  split at h
  · exact ⟨_, _, RunResult.leaves_running.mp h⟩
  split at h
  · exact ⟨_, _, RunResult.leaves_quit.mp h⟩
  split at h
  · exact ⟨_, true, RunResult.leaves_running.mp h⟩
  · exact ⟨true, _, RunResult.leaves_running.mp h⟩

/-- What the periodic callback leaves: the reload with the period `p`, which is the old one or one the host wrote (R513, R541). -/
theorem State.periodic_leaves {s t : State} (h : s.periodic.Leaves t) :
    ∃ p int nmi, (p = s.iPeriod ∨ periodOk p = true) ∧
      t = { ({ s.afterCall (.periodicCheck s.sinceReload s.cpu) with iPeriod := p } : State).reload with
        intPending := int, nmiPending := nmi } := by
  unfold State.periodic at h
  dsimp only at h
  split at h
  · obtain ⟨int, nmi, rfl⟩ := State.handleResult_leaves h
    exact ⟨s.iPeriod, int, nmi, .inl rfl, rfl⟩
  · next p _ =>
    unfold State.setIPeriod at h
    by_cases hp : periodOk p = true
    · simp only [hp, if_true] at h
      obtain ⟨int, nmi, rfl⟩ := State.handleResult_leaves h
      exact ⟨p, int, nmi, .inr hp, rfl⟩
    · simp [hp, RunResult.Leaves] at h

/-- What one pass leaves: the step's state while ICount lasts, and after that what the periodic callback leaves (R513). -/
theorem runStep_leaves {s t : State} (h : (runStep s).Leaves t) :
    ∃ u, step s = .next u ∧ (0 < u.iCount ∧ t = u ∨ u.iCount ≤ 0 ∧ u.periodic.Leaves t) := by
  unfold runStep at h
  split at h
  · next u hu =>
    refine ⟨u, hu, ?_⟩
    by_cases hc : u.iCount ≤ 0
    · rw [if_pos hc] at h
      exact .inr ⟨hc, h⟩
    · rw [if_neg hc] at h
      exact .inl ⟨by omega, RunResult.leaves_running.mp h⟩
  · simp [RunResult.Leaves] at h
  · simp [RunResult.Leaves] at h

/-- Settles O20: a step takes at most 23 cycles, so what is left of ICount is above -23, and IPeriod is at least 23. -/
theorem runKeepsCountInRange : Obligations.RunKeepsCountInRange := by
  intro s t hv hp ⟨_, hmax⟩ h
  obtain ⟨u, hstep, hleft⟩ := runStep_leaves h
  obtain ⟨cost, h23, hcount, _, hperiod, _⟩ := step_chargesCost hv hstep
  have hcfg := (step_keepsMachine hstep).cfg
  obtain ⟨hpos, rfl⟩ | ⟨hused, hleft⟩ := hleft
  · exact ⟨⟨by omega, by omega⟩, hperiod ▸ hp, hcfg⟩
  · obtain ⟨p, _, _, hp', rfl⟩ := State.periodic_leaves hleft
    have hok : periodOk p = true := by
      rcases hp' with rfl | hok
      · exact hperiod ▸ hp
      · exact hok
    have hrange : 23 ≤ p ∧ p ≤ 2 ^ 30 := by simpa [periodOk] using hok
    have hreload : 1 ≤ u.iCount + p ∧ u.iCount + p ≤ 2 ^ 30 := by omega
    exact ⟨hreload, hok, hcfg⟩

end Sys2Proof.Machine

/-! SUPPORT. The 16-bit loads, by the operand forms of the statements. -/

namespace Sys2Proof.Machine

/-- A load of a pair leaves A and F (R31, R230 to R234). -/
theorem loadPair_keepsAf (s : State) (p : Pair) (v : Word) (len cost : Nat) :
    ∃ t, loadPair s p v len cost = .next t ∧ t.cpu = (s.setPair p v).cpu.past len ∧ t.pair p = v ∧
      (∀ q, q ≠ p → t.pair q = s.pair q) ∧ t.cpu.main.a = s.cpu.main.a ∧ s.sameFlags t ∧ s.storesNothing t ∧
      s.charged t cost ∧ s.quiet t := by
  obtain ⟨t, e, hcpu, hpair, hothers, hkept⟩ := loadPair_spec s p v len cost
  exact ⟨t, e, hcpu, hpair, hothers, by simp [hcpu], by simp [State.sameFlags, hcpu], hkept⟩

/-- A load of an index register leaves the main bank (R33, R231, R232, R235, R236). -/
theorem loadIndex_keepsMain (s : State) (x : IndexReg) (v : Word) (len cost : Nat) :
    ∃ t, loadIndex s x v len cost = .next t ∧ t.cpu = (s.setIndex x v).cpu.past len ∧ t.index x = v ∧
      (∀ y, y ≠ x → t.index y = s.index y) ∧ s.sameRegs t ∧ s.sameFlags t ∧ s.storesNothing t ∧ s.charged t cost ∧
      s.quiet t := by
  obtain ⟨t, e, hcpu, hindex, hothers, hkept⟩ := loadIndex_spec s x v len cost
  obtain ⟨hregs, hflags⟩ := s.sameRegs_of_main t (by rw [hcpu, State.setIndex_main])
  exact ⟨t, e, hcpu, hindex, hothers, hregs, hflags, hkept⟩

/-- A load of SP changes no other register (R241 to R243). -/
theorem loadSp_spec (s : State) (v : Word) (len cost : Nat) :
    ∃ t, loadPair s .sp v len cost = .next t ∧ t.cpu = { s.cpu.past len with sp := v } ∧ s.storesNothing t ∧
      s.charged t cost ∧ s.quiet t := by
  obtain ⟨t, e, hcpu, _, _, hkept⟩ := loadPair_spec s .sp v len cost
  exact ⟨t, e, hcpu, hkept⟩

/-! ### Meanings and encodings by operand -/

theorem exec_ldPairImm (s : State) (p : Pair) (nn : Word) : exec (.ldPairImm p nn) s = loadPair s p nn 3 10 := by
  cases p <;> rfl

theorem exec_ldPairMem (s : State) (p : Pair) (nn : Word) :
    exec (.ldPairMem p nn) s = loadPair s p (s.readWord nn) 4 20 := by
  cases p <;> rfl

theorem exec_ldIndexImm (s : State) (x : IndexReg) (nn : Word) : exec (.ldIndexImm x nn) s = loadIndex s x nn 4 14 := by
  cases x <;> rfl

theorem exec_ldIndexMem (s : State) (x : IndexReg) (nn : Word) :
    exec (.ldIndexMem x nn) s = loadIndex s x (s.readWord nn) 4 20 := by
  cases x <;> rfl

theorem exec_ldSpIndex (s : State) (x : IndexReg) : exec (.ldSpIndex x) s = loadPair s .sp (s.index x) 2 10 := by
  cases x <;> rfl

theorem encode_ldPairImm (p : Pair) (nn : Word) :
    encode (.ldPairImm p nn) = [opByte 0 (2 * pairCode p) 1, lowByte nn, highByte nn] := by
  cases p <;> rfl

theorem encode_ldPairMem (p : Pair) (nn : Word) :
    encode (.ldPairMem p nn) = [0xED, opByte 1 (2 * pairCode p + 1) 3, lowByte nn, highByte nn] := by
  cases p <;> rfl

theorem encode_ldIndexImm (x : IndexReg) (nn : Word) :
    encode (.ldIndexImm x nn) = [indexCode x, 0x21, lowByte nn, highByte nn] := by
  cases x <;> rfl

theorem encode_ldIndexMem (x : IndexReg) (nn : Word) :
    encode (.ldIndexMem x nn) = [indexCode x, 0x2A, lowByte nn, highByte nn] := by
  cases x <;> rfl

theorem encode_ldSpIndex (x : IndexReg) : encode (.ldSpIndex x) = [indexCode x, 0xF9] := by
  cases x <;> rfl

/-- `LD HL,(nn)`: the low byte to L, the high byte to H (R85, R233). -/
theorem ldHlMemNn_spec (s : State) (nn : Word) :
    ∃ t, exec (.ldHlMemNn nn) s = .next t ∧
      t.cpu = { s.cpu.past 3 with main := { s.cpu.main with h := s.readByte (nn + 1), l := s.readByte nn } } ∧
      s.storesNothing t ∧ s.charged t 16 ∧ s.quiet t := by
  obtain ⟨t, e, hcpu, _, _, hkept⟩ := loadPair_spec s .hl (s.readWord nn) 3 16
  exact ⟨t, e, by simp [hcpu, State.setPair, State.readWord], hkept⟩

/-- Settles O31: each load names the shared operation of its meaning, and the pair views are `joinBytes` and its halves. -/
theorem pairLoads : Obligations.PairLoads := by
  refine ⟨fun s => ⟨fun p nn => ⟨encode_ldPairImm p nn, ?_⟩, fun p nn => ⟨encode_ldPairMem p nn, ?_⟩,
    fun nn => ⟨rfl, ldHlMemNn_spec s nn⟩, fun x nn => ⟨encode_ldIndexImm x nn, ?_⟩,
    fun x nn => ⟨encode_ldIndexMem x nn, ?_⟩, ⟨rfl, loadSp_spec s s.hl 1 6⟩,
    fun x => ⟨encode_ldSpIndex x, ?_⟩⟩, fun s v => ?_⟩
  · rw [exec_ldPairImm]
    exact loadPair_keepsAf s p nn 3 10
  · rw [exec_ldPairMem]
    exact loadPair_keepsAf s p (s.readWord nn) 4 20
  · rw [exec_ldIndexImm]
    exact loadIndex_keepsMain s x nn 4 14
  · rw [exec_ldIndexMem]
    exact loadIndex_keepsMain s x (s.readWord nn) 4 20
  · rw [exec_ldSpIndex]
    exact loadSp_spec s (s.index x) 2 10
  · refine ⟨joinBytes_toNat _ _, joinBytes_toNat _ _, joinBytes_toNat _ _, joinBytes_toNat _ _,
      s.setPair_same .bc v, s.setPair_same .de v, s.setPair_same .hl v, ?_, highByte_toNat v, lowByte_toNat v⟩
    simp [State.af, Flags.toByte_ofByte, joinBytes_halves]

end Sys2Proof.Machine

/-! SUPPORT. The memory map: the tables entry by entry, where an access goes, and what a read gives after a write. -/

namespace Sys2Proof.Machine

/-! ### The tables, entry by entry (R91 to R93) -/

theorem State.romRam_eq_true (s : State) : s.romRam = true ↔ s.ioByte.getLsbD 7 = false := by
  simp [State.romRam]

theorem State.romRam_eq_false (s : State) : s.romRam = false ↔ s.ioByte.getLsbD 7 = true := by
  simp [State.romRam]

theorem State.slot_eq_extractLsb' (s : State) : s.slot = (s.ioByte.extractLsb' 4 3).toNat := by
  rw [BitVec.extractLsb'_toNat, Nat.shiftRight_eq_div_pow]
  rfl

/-- An entry that holds a half of a RAM window: every entry in RAM-only mode, and those of windows 1 to 3 in ROM+RAM mode. -/
def State.ramEntryAt (s : State) (k : Nat) : Prop := s.romRam = true → 2 ≤ k

theorem State.ramTarget_half (s : State) (u : Target) (w : Nat) {h : Nat} (hh : h ≤ 1) :
    s.ramTarget u (2 * w + h) = match s.ramMap w with
      | some b => .ram b h
      | none => u := by
  have hw : (2 * w + h) / 2 = w := by omega
  have hm : (2 * w + h) % 2 = h := by omega
  cases e : s.ramMap w with
  | none => simp [State.ramTarget, hw, e]
  | some b => simp [State.ramTarget, hw, hm, e]

section Tables

variable (s : State) {k : Nat}

theorem State.tables_ram (h : s.ramEntryAt k) :
    s.readTable k = s.ramTarget .high k ∧ s.writeTable k = s.ramTarget .vapour k ∧
      s.updateTable k = s.ramTarget .vapour k := by
  cases hr : s.romRam with
  | false => simp [State.readTable, State.writeTable, State.updateTable, hr]
  | true =>
    have h2 : 2 ≤ k := h hr
    have h0 : k ≠ 0 := by omega
    have h1 : k ≠ 1 := by omega
    simp [State.readTable, State.writeTable, State.updateTable, h0, h1]

theorem State.tables_zero (h : s.romRam = true) :
    s.readTable 0 = .mon ∧ s.writeTable 0 = .subpage ∧ s.updateTable 0 = .mon := by
  simp [State.readTable, State.writeTable, State.updateTable, h]

theorem State.tables_one (h : s.romRam = true) :
    s.readTable 1 = (if s.pageExists && s.slotEnabled then .rom s.slot s.page else .high) ∧ s.writeTable 1 = .vapour ∧
      s.updateTable 1 = if s.pageExists then .rom s.slot s.page else .vapour := by
  simp [State.readTable, State.writeTable, State.updateTable, h]

end Tables

/-- The tables at a half of a window that holds RAM. -/
theorem State.tables_window (s : State) {w h : Nat} (hh : h ≤ 1) (hk : s.ramEntryAt (2 * w + h)) :
    let ram (unmapped : Target) := match s.ramMap w with
      | some b => Target.ram b h
      | none => unmapped
    s.readTable (2 * w + h) = ram .high ∧ s.writeTable (2 * w + h) = ram .vapour ∧
      s.updateTable (2 * w + h) = ram .vapour := by
  obtain ⟨hr, hw, hu⟩ := s.tables_ram hk
  exact ⟨hr.trans (s.ramTarget_half _ w hh), hw.trans (s.ramTarget_half _ w hh), hu.trans (s.ramTarget_half _ w hh)⟩

/-- Settles O23: entries 0 and 1 in ROM+RAM mode, and the RAM entries in both modes. -/
theorem mapTables : Obligations.MapTables := by
  intro s w h _ hh
  refine ⟨s.slot_eq_extractLsb', fun hmode => ?_, fun hmode => ?_⟩
  · have hr := s.romRam_eq_true.mpr hmode
    obtain ⟨hread0, hwrite0, hupdate0⟩ := s.tables_zero hr
    obtain ⟨hread1, hwrite1, hupdate1⟩ := s.tables_one hr
    refine ⟨hread0, hwrite0, hupdate0, hwrite1, ?_, ?_, fun hw => s.tables_window hh fun _ => by omega⟩
    · simpa [State.pageExists, State.slotEnabled, State.page] using hread1
    · simpa [State.pageExists, State.page] using hupdate1
  · exact s.tables_window hh fun hr => by simp [s.romRam_eq_false.mpr hmode] at hr

/-! ### The CPU's byte accesses (R82, R84, R89) -/

theorem entryOf_eq_extractLsb' (a : Word) : entryOf a = (a.extractLsb' 13 3).toNat := by
  have := a.isLt
  rw [BitVec.extractLsb'_toNat, Nat.shiftRight_eq_div_pow, entryOf]
  omega

theorem offsetOf_eq_extractLsb' (a : Word) : offsetOf a = (a.extractLsb' 0 13).toNat := by
  rw [BitVec.extractLsb'_toNat]
  rfl

theorem State.readByte_of_readTable (s : State) (a : Word) {t : Target} (h : s.readTable (entryOf a) = t) :
    s.readByte a = s.readTarget t (offsetOf a) := by
  rw [State.readByte, h]

theorem State.writeByte_of_writeTable (s : State) (a : Word) (v : Byte) {t : Target} (h : s.writeTable (entryOf a) = t) :
    s.writeByte a v = s.writeTarget t (offsetOf a) v := by
  rw [State.writeByte, h]

/-- A read after a write to a RAM entry: the byte at every address that shows its cell, and what was there at every other. -/
theorem State.readByte_writeByte_ram (s : State) (a : Word) (v : Byte) {b h : Nat}
    (ht : s.writeTable (entryOf a) = .ram b h) (x : Word) :
    (s.writeByte a v).readByte x =
      if s.readTable (entryOf x) = .ram b h ∧ offsetOf x = offsetOf a then v else s.readByte x := by
  rw [s.writeByte_of_writeTable a v ht]
  exact s.readByte_ramWrite b h (offsetOf a) v (s.writeTable_ram _ _ _ ht).2 (offsetOf_lt a) x

theorem State.readByte_writeByte_same (s : State) (a : Word) (v : Byte)
    (ht : ∃ b h, s.writeTable (entryOf a) = .ram b h) : (s.writeByte a v).readByte a = v := by
  obtain ⟨b, h, ht⟩ := ht
  rw [s.readByte_writeByte_ram a v ht, if_pos ⟨(s.writeTable_ram _ _ _ ht).1, rfl⟩]

theorem State.readByte_by_target (s : State) (a : Word) :
    let k := (a.extractLsb' 13 3).toNat
    let o := (a.extractLsb' 0 13).toNat
    (s.readTable k = .mon → s.readByte a = s.monitorRom.read o) ∧
    (∀ slot page, s.readTable k = .rom slot page → s.readByte a = s.rom.read (romIndex slot page o)) ∧
    (∀ b h, s.readTable k = .ram b h → s.readByte a = s.ram.read (ramIndex b h o)) ∧
    (s.readTable k = .high → s.readByte a = 0xFF) := by
  intro k o
  have hk : k = entryOf a := (entryOf_eq_extractLsb' a).symm
  have ho : o = offsetOf a := (offsetOf_eq_extractLsb' a).symm
  rw [hk, ho]
  exact ⟨s.readByte_of_readTable a, fun _ _ => s.readByte_of_readTable a, fun _ _ => s.readByte_of_readTable a,
    s.readByte_of_readTable a⟩

/-- Settles O24: a read follows the read table; a write follows the write table, whose entries are RAM, VAPOUR and SUBPAGE. -/
theorem byteAccess : Obligations.ByteAccess := by
  refine ⟨State.readByte_by_target, fun s a v => ⟨s.writeByte_cpu a v, s.writeByte_monitorRom a v, s.writeByte_rom a v,
    s.writeByte_ioByte a v, s.writeByte_romEnableMask a v, s.writeByte_cfg a v, fun b h ht => ⟨?_, ?_, ?_⟩, fun ht => ?_,
    fun ht => ?_, ?_⟩⟩
  · rw [s.writeByte_of_writeTable a v ht]
    rfl
  · exact (s.writeTable_ram _ _ _ ht).1
  · exact s.readByte_writeByte_ram a v ht
  · exact s.writeByte_of_writeTable a v ht
  · rw [s.writeByte_of_writeTable a v ht]
    exact ⟨rfl, rfl, s.readByte_subPage v⟩
  · rcases s.writeTable_cases (entryOf a) with ⟨ht, _⟩ | ht | ⟨b, _, ht⟩
    · exact .inr (.inl ht)
    · exact .inl ht
    · exact .inr (.inr ⟨b, _, ht⟩)

/-! ### The host's access (R93, R100) -/

/-- The targets of the update table: it has no sub-page side effect (R93). -/
theorem State.updateTable_cases (s : State) (k : Nat) :
    s.updateTable k = .mon ∨ s.updateTable k = .rom s.slot s.page ∨ s.updateTable k = .vapour ∨
      ∃ b, s.updateTable k = .ram b (k % 2) := by
  by_cases hk : s.ramEntryAt k
  · rw [(s.tables_ram hk).2.2]
    exact .inr (.inr (s.ramTarget_cases .vapour k))
  · obtain ⟨hr, hlt⟩ : s.romRam = true ∧ k < 2 := by simpa [State.ramEntryAt] using hk
    obtain rfl | rfl : k = 0 ∨ k = 1 := by omega
    · exact .inl (s.tables_zero hr).2.2
    · rw [(s.tables_one hr).2.2]
      cases s.pageExists
      · exact .inr (.inr (.inl rfl))
      · exact .inr (.inl rfl)

theorem State.readTable_rom (s : State) {k slot page : Nat} (e : s.readTable k = .rom slot page) :
    slot = s.slot ∧ page = s.page := by
  rcases s.readTable_cases k with ⟨h, _⟩ | ⟨h, _⟩ | h | ⟨_, h⟩ <;> rw [h] at e <;> simp at e
  exact ⟨e.1.symm, e.2.symm⟩

theorem State.readTable_ne_vapour (s : State) (k : Nat) : s.readTable k ≠ .vapour := by
  rcases s.readTable_cases k with ⟨h, _⟩ | ⟨h, _⟩ | h | ⟨_, h⟩ <;> rw [h] <;> simp

/-- A read after a write to the monitor ROM. -/
theorem State.readByte_monWrite (s : State) (o : Nat) (v : Byte) (x : Word) :
    (s.writeTarget .mon o v).readByte x =
      if s.readTable (entryOf x) = .mon ∧ offsetOf x = o then v else s.readByte x := by
  have ht : (s.writeTarget .mon o v).readTable (entryOf x) = s.readTable (entryOf x) := rfl
  unfold State.readByte
  rw [ht]
  cases s.readTable (entryOf x) with
  | mon => simp [State.readTarget, State.writeTarget, Memory.read_write]
  | _ => simp [State.readTarget, State.writeTarget]

/-- A read after a write to the slot ROM page shown. -/
theorem State.readByte_romWrite (s : State) (o : Nat) (v : Byte) (x : Word) :
    (s.writeTarget (.rom s.slot s.page) o v).readByte x =
      if s.readTable (entryOf x) = .rom s.slot s.page ∧ offsetOf x = o then v else s.readByte x := by
  have ht : (s.writeTarget (.rom s.slot s.page) o v).readTable (entryOf x) = s.readTable (entryOf x) := rfl
  unfold State.readByte
  rw [ht]
  cases e : s.readTable (entryOf x) with
  | rom slot page =>
    obtain ⟨rfl, rfl⟩ := s.readTable_rom e
    have hcell : romIndex s.slot s.page (offsetOf x) = romIndex s.slot s.page o ↔ offsetOf x = o :=
      ⟨romIndex_inj _ _ _ _, congrArg _⟩
    simp [State.readTarget, State.writeTarget, Memory.read_write, hcell]
  | _ => simp [State.readTarget, State.writeTarget]

/-- A read after a host's write: the byte at every address that shows the update target, and what was there at every other. -/
theorem State.readByte_internalWrite (s : State) (a : Word) (v : Byte) (x : Word) :
    (s.internalWrite a v).readByte x =
      if s.updateTable (entryOf a) = s.readTable (entryOf x) ∧ offsetOf x = offsetOf a then v else s.readByte x := by
  simp only [State.internalWrite, eq_comm (a := s.updateTable (entryOf a))]
  rcases s.updateTable_cases (entryOf a) with h | h | h | ⟨b, h⟩ <;> rw [h]
  · exact s.readByte_monWrite (offsetOf a) v x
  · exact s.readByte_romWrite (offsetOf a) v x
  · rw [if_neg fun hx => s.readTable_ne_vapour _ hx.1]
    rfl
  · exact s.readByte_ramWrite b _ (offsetOf a) v (Nat.mod_lt _ (by decide)) (offsetOf_lt a) x

theorem State.internalWrite_keepsMap (s : State) (a : Word) (v : Byte) :
    (s.internalWrite a v).cpu = s.cpu ∧ (s.internalWrite a v).sameMap s := by
  unfold State.internalWrite
  rcases s.updateTable_cases (entryOf a) with h | h | h | ⟨b, h⟩ <;> rw [h] <;> exact ⟨rfl, rfl, rfl, rfl, rfl⟩

/-- Settles O25: the update table holds no sub-page register, and a read shows the cell its target names. -/
theorem internalAccess : Obligations.InternalAccess := by
  intro s a v
  obtain ⟨hcpu, hmap⟩ := s.internalWrite_keepsMap a v
  refine ⟨rfl, hcpu, hmap, fun h => ?_, s.readByte_internalWrite a v⟩
  rw [State.internalWrite, h]
  rfl

/-! ### Words and the stack (R83, R85, R86) -/

theorem State.writeTable_writeByte (s : State) (a : Word) (v : Byte) (k : Nat) :
    (s.writeByte a v).writeTable k = s.writeTable k := by
  rcases s.writeByte_cases a v with ⟨_, h⟩ | ⟨_, h⟩ | ⟨_, _, _, _, h⟩ <;> rw [h] <;> rfl

theorem State.push16_readByte (s : State) (v x : Word) :
    (s.push16 v).readByte x =
      ((s.writeByte (s.cpu.sp - 1) (highByte v)).writeByte (s.cpu.sp - 2) (lowByte v)).readByte x := by
  rw [s.push16_eq, State.setSp_readByte]

/-- A pop after a push gives the word back, where its two bytes are RAM cells that differ. -/
theorem State.popValue_push16 (s : State) (v : Word) (hhigh : ∃ b h, s.writeTable (entryOf (s.cpu.sp - 1)) = .ram b h)
    (hlow : ∃ b h, s.writeTable (entryOf (s.cpu.sp - 2)) = .ram b h)
    (hdiffer : ¬ s.touches (s.cpu.sp - 2) (s.cpu.sp - 1)) : (s.push16 v).popValue = v := by
  have hsp : s.cpu.sp - 2 + 1 = s.cpu.sp - 1 := by bv_omega
  have hreadHigh : (s.push16 v).readByte (s.cpu.sp - 1) = highByte v := by
    rw [s.push16_readByte, State.readByte_writeByte _ _ _ _ (mt (s.touches_writeByte _ _ _ _).mp hdiffer),
      s.readByte_writeByte_same _ _ hhigh]
  have hreadLow : (s.push16 v).readByte (s.cpu.sp - 2) = lowByte v := by
    rw [s.push16_readByte]
    exact State.readByte_writeByte_same _ _ _ (by simpa only [State.writeTable_writeByte] using hlow)
  simp only [State.popValue, State.push16_cpu, hsp, hreadHigh, hreadLow, joinBytes_halves]

theorem State.push16_popped_cpu (s : State) (v : Word) : (s.push16 v).popped.cpu = s.cpu := by
  have hsp : s.cpu.sp - 2 + 2 = s.cpu.sp := by bv_omega
  simp only [State.popped_cpu, State.push16_cpu, hsp]

theorem State.pushed_push16 (s : State) (v : Word) : s.pushed (s.push16 v) v :=
  s.pushed_of _ s v ⟨rfl, rfl, rfl, rfl, rfl, rfl, rfl⟩ rfl ⟨rfl, rfl, rfl, rfl, rfl, rfl, rfl⟩

/-- Settles O26: a push is two CPU writes, and a pop after it reads each of them back. -/
theorem wordsAndStack : Obligations.WordsAndStack := fun s _ v =>
  ⟨rfl, rfl, s.push16_cpu v, s.pushed_push16 v, rfl, s.popped_cpu, fun hhigh hlow hdiffer =>
    ⟨s.popValue_push16 v hhigh hlow hdiffer, s.push16_popped_cpu v⟩⟩

end Sys2Proof.Machine

/-! SUPPORT. The configurations and images that `configure` takes. -/

namespace Sys2Proof.Machine

theorem periodOk_iff (p : Int) : periodOk p = true ↔ 23 ≤ p ∧ p ≤ 2 ^ 30 := by
  simp [periodOk]

theorem Config.blockCount_of_valid {c : Config} (hv : c.valid = true) :
    2 ≤ c.ramBlockCount ∧ c.ramBlockCount ≤ c.maxBlocks := by
  simp only [Config.valid, Config.blocksOk, Bool.and_eq_true, decide_eq_true_eq] at hv
  exact hv.1.1.1.1.1.1.1

theorem Config.nSub_of_valid {c : Config} (hv : c.valid = true) : c.nSub.length ≤ 8 ∧ ∀ n ∈ c.nSub, n ≤ 256 := by
  simp only [Config.valid, Config.slotsOk, Bool.and_eq_true, List.all_eq_true, decide_eq_true_eq] at hv
  exact hv.1.1.1.1.1.1.2

theorem Config.nSub_getD_le_of_valid {c : Config} (hv : c.valid = true) (slot : Nat) : c.nSub.getD slot 0 ≤ 256 := by
  rw [List.getD_eq_getElem?_getD]
  cases hg : c.nSub[slot]? with
  | none => simp
  | some n => exact (Config.nSub_of_valid hv).2 n (List.mem_of_getElem? hg)

/-- A slot image with every byte in its place names no slot past 7 (R53, R101). -/
theorem MemoryInside.slots_lt {c : Config} {monitor slots ram : Memory} (hv : c.valid = true)
    (h : MemoryInside c monitor slots ram) : ∀ b ∈ slots, b.1 < romIndex 8 0 0 := by
  intro b hb
  obtain ⟨slot, page, o, hslot, hpage, ho, e⟩ := h.2.1 b hb
  have := Config.nSub_getD_le_of_valid hv slot
  rw [e]
  unfold romIndex
  omega

/-- What `configure` takes: valid parameters, and canonical images with every byte in its place. -/
structure ConfigureAccepts (c : Config) (p : Int) (monitor slots ram : Memory) : Prop where
  valid : c.valid = true
  period : periodOk p = true
  inside : MemoryInside c monitor slots ram
  monitorWf : monitor.wf
  slotsWf : slots.wf
  ramWf : ram.wf

section

variable {c : Config} {p : Int} {monitor slots ram : Memory}

theorem ConfigureAccepts.configure_eq (h : ConfigureAccepts c p monitor slots ram) :
    configure c p monitor slots ram = some (configured c p monitor slots ram) :=
  if_pos ⟨h.valid, h.period, (imagesFit_iff c h.valid _ _ _).mpr h.inside, h.monitorWf, h.slotsWf, h.ramWf⟩

theorem configure_inv {s : State} (h : configure c p monitor slots ram = some s) :
    ConfigureAccepts c p monitor slots ram ∧ s = configured c p monitor slots ram := by
  unfold configure at h
  split at h
  · next hc =>
    obtain ⟨hvalid, hperiod, hfit, hmonitor, hslots, hram⟩ := hc
    exact ⟨⟨hvalid, hperiod, (imagesFit_iff c hvalid _ _ _).mp hfit, hmonitor, hslots, hram⟩, (Option.some.inj h).symm⟩
  · cases h

theorem ConfigureAccepts.reset_wellFormed (h : ConfigureAccepts c p monitor slots ram) :
    (configured c p monitor slots ram).cpuReset.wellFormed :=
  ⟨⟨h.ramWf, h.monitorWf, h.slotsWf⟩, h.valid, h.period, Nat.two_pow_pos 64⟩

/-- No parameter or image that R7, R48 and R101 exclude is taken. -/
theorem ConfigureAccepts.not_excluded (h : ConfigureAccepts c p monitor slots ram) :
    ¬ (c.ramBlockCount < 2 ∨ c.maxBlocks < c.ramBlockCount ∨ 8 < c.nSub.length ∨ (∃ n ∈ c.nSub, 256 < n) ∨
        p < 23 ∨ 2 ^ 30 < p ∨ (∃ b ∈ slots, romIndex 8 0 0 ≤ b.1) ∨ ¬ MemoryInside c monitor slots ram) := by
  obtain ⟨hmin, hmax⟩ := Config.blockCount_of_valid h.valid
  obtain ⟨hcount, hpages⟩ := Config.nSub_of_valid h.valid
  obtain ⟨hlow, hhigh⟩ := (periodOk_iff p).mp h.period
  rintro (hx | hx | hx | ⟨n, hn, hx⟩ | hx | hx | ⟨b, hb, hx⟩ | hx)
  · omega
  · omega
  · omega
  · exact absurd (hpages n hn) (by omega)
  · omega
  · omega
  · exact absurd (h.inside.slots_lt h.valid b hb) (by omega)
  · exact hx h.inside

end

/-- Settles O19: `configure` gives `configured` exactly where `ConfigureAccepts` holds. `configure` alone names the operation. -/
theorem ConfigureAccepts.configure : Obligations.Configure := by
  intro c p monitor slots ram
  refine ⟨fun s h => ?_, fun hvalid hlow hhigh hmonitor hslots hram hinside => ?_, fun hx => ?_⟩
  · obtain ⟨ha, rfl⟩ := configure_inv h
    exact ⟨rfl, rfl, rfl, rfl, rfl, rfl, rfl, rfl, ha.reset_wellFormed, ha.inside⟩
  · have hperiod := (periodOk_iff p).mpr ⟨hlow, hhigh⟩
    exact ⟨_, ConfigureAccepts.configure_eq ⟨hvalid, hperiod, hinside, hmonitor, hslots, hram⟩⟩
  · refine Option.eq_none_iff_forall_ne_some.mpr fun s h => ?_
    exact (configure_inv h).1.not_excluded hx

end Sys2Proof.Machine

/-! SUPPORT. The reference `ramMap` of R95: its table, and the laws of R94 at every number of blocks. -/

namespace Sys2Proof.Machine.ReferenceRam

theorem block_lt {n : Nat} (hn : 2 ≤ n) {romRam : Bool} {nibble w b : Nat}
    (h : referenceRamMap n romRam nibble w = some b) : b < n := by
  have hbase : some 0 = some b → b < n := fun h0 => by
    obtain rfl : 0 = b := Option.some.inj h0
    omega
  have hres : ∀ k, (if k < n then some k else if n = 2 then some 0 else none) = some b → b < n := by
    intro k hk
    split at hk
    · next hlt => exact Option.some.inj hk ▸ hlt
    split at hk
    · exact hbase hk
    · simp at hk
  simp only [referenceRamMap] at h
  split at h
  · exact hres _ h
  · exact hres _ h
  · split at h
    · simp at h
    · exact hbase h
  · simp at h
  · exact hbase h
  · exact hres _ h

theorem tableIndex_lt (romRam : Bool) {nibble w : Nat} (hnibble : nibble < 16) (hw : w < 4) :
    ramTableIndex romRam nibble w < 128 := by
  cases romRam <;> simp [ramTableIndex] <;> omega

/-- The table holds the formula (R95). -/
theorem table_getD (n : Nat) (romRam : Bool) {nibble w : Nat} (hnibble : nibble < 16) (hw : w < 4) :
    (referenceRamTable n).getD (ramTableIndex romRam nibble w) none = referenceRamMap n romRam nibble w := by
  have hlt := tableIndex_lt romRam hnibble hw
  have hmode : decide (ramTableIndex romRam nibble w < 64) = romRam := by
    cases romRam <;> simp [ramTableIndex] <;> omega
  have hnib : ramTableIndex romRam nibble w / 4 % 16 = nibble := by
    cases romRam <;> simp [ramTableIndex] <;> omega
  have hwin : ramTableIndex romRam nibble w % 4 = w := by
    cases romRam <;> simp [ramTableIndex] <;> omega
  simp [referenceRamTable, List.getD_eq_getElem?_getD, List.getElem?_range hlt, hmode, hnib, hwin]

/-- The reference configuration with `n` blocks and the reference table. -/
def config (n : Nat) : Config :=
  { Config.reference with ramBlockCount := n, ramTable := referenceRamTable n }

theorem config_ramEntry (n : Nat) (romRam : Bool) {nibble w : Nat} (hnibble : nibble < 16) (hw : w < 4) :
    (config n).ramEntry romRam nibble w = referenceRamMap n romRam nibble w :=
  table_getD n romRam hnibble hw

theorem config_ramRangeOk {n : Nat} (hn : 2 ≤ n) : (config n).ramRangeOk = true := by
  unfold Config.ramRangeOk
  refine List.all_eq_true.mpr fun e he => ?_
  obtain ⟨k, _, rfl⟩ := List.mem_map.mp he
  split
  · rfl
  · next b hb => exact decide_eq_true (block_lt hn hb)

theorem config_mirrorOk {n : Nat} (hn : 2 ≤ n) : (config n).mirrorOk = true := by
  have h2 : (config n).ramEntry false 0 2 = if 3 < n then some 3 else if n = 2 then some 0 else none :=
    config_ramEntry n false (by decide) (by decide)
  have h3 : (config n).ramEntry false 0 3 = some 0 := config_ramEntry n false (by decide) (by decide)
  have hcount : (config n).ramBlockCount = n := rfl
  unfold Config.mirrorOk
  rw [h2, h3, hcount]
  by_cases hmirror : n = 2
  · subst hmirror; decide
  by_cases h4 : 3 < n
  · simp [hmirror, h4]
  · simp [hmirror, h4, show n < 4 by omega]

theorem config_baseOk {n : Nat} (hn : 2 ≤ n) : (config n).baseOk = true := by
  have h1 : (config n).ramEntry true 0 1 = if 2 < n then some 2 else if n = 2 then some 0 else none :=
    config_ramEntry n true (by decide) (by decide)
  have h2 : (config n).ramEntry true 0 2 = if 1 < n then some 1 else if n = 2 then some 0 else none :=
    config_ramEntry n true (by decide) (by decide)
  have h3 : (config n).ramEntry true 0 3 = some 0 := config_ramEntry n true (by decide) (by decide)
  have hmapped : 2 < n ∨ n = 2 := by omega
  unfold Config.baseOk
  rw [h1, h2, h3]
  rcases hmapped with h | rfl
  · simp [h, show 1 < n by omega]
  · rfl

theorem config_valid {n : Nat} (hn : 2 ≤ n) (hmax : n ≤ 49) : (config n).valid = true := by
  have hblocks : (config n).blocksOk = true := by simp [Config.blocksOk, config, Config.reference, hn, hmax]
  have hquirk : (config n).quirkOk = true := by
    rw [Config.quirkOk, config_ramEntry n true (by decide) (by decide)]
    rfl
  have hslots : (config n).slotsOk = true := (by decide : Config.reference.slotsOk = true)
  have hports : (config n).portsOk = true := (by decide : Config.reference.portsOk = true)
  have hpatch : (config n).patchCyclesOk = true := (by decide : Config.reference.patchCyclesOk = true)
  simp only [Config.valid, hblocks, hslots, config_ramRangeOk hn, hquirk, config_mirrorOk hn,
    config_baseOk hn, hports, hpatch, Bool.and_true]

/-- Settles O27: each law is read off the formula, which the table holds at every index of its 128. -/
theorem referenceRamMap : Obligations.ReferenceRamMap := fun n hn hmax =>
  ⟨config_valid hn hmax, fun romRam _ _ hnibble hw => config_ramEntry n romRam hnibble hw⟩

end Sys2Proof.Machine.ReferenceRam

/-! SUPPORT. The fields of an opcode byte (R152 to R156): each decoder table is inverse to the code of its operand, and the
encoding of each form of instruction is its fields. -/

namespace Sys2Proof
open Machine

/-! ### An opcode byte and its fields -/

section Fields
variable {x y z : Nat} (hx : x < 4) (hy : y < 8) (hz : z < 8)
include hx hy hz

theorem opByte_toNat : (opByte x y z).toNat = 64 * x + 8 * y + z := by
  rw [opByte, BitVec.toNat_ofNat]
  omega

@[simp] theorem fieldX_opByte : fieldX (opByte x y z) = x := by
  rw [fieldX, opByte_toNat hx hy hz]
  omega

@[simp] theorem fieldY_opByte : fieldY (opByte x y z) = y := by
  rw [fieldY, opByte_toNat hx hy hz]
  omega

@[simp] theorem fieldZ_opByte : fieldZ (opByte x y z) = z := by
  rw [fieldZ, opByte_toNat hx hy hz]
  omega

end Fields

theorem exists_opByte (op : Byte) : ∃ x y z, x < 4 ∧ y < 8 ∧ z < 8 ∧ op = opByte x y z := by
  refine ⟨fieldX op, fieldY op, fieldZ op, ?_, ?_, ?_, byte_fields op⟩ <;> simp only [fieldX, fieldY, fieldZ] <;> omega

/-! ### Operand codes and the tables of R153 to R156 -/

@[simp] theorem regField_regCode (r : Reg8) : regField (regCode r) = some r := by cases r <;> rfl
@[simp] theorem pairField_pairCode (p : Pair) : pairField (pairCode p) = p := by cases p <;> rfl
@[simp] theorem pairField_odd (p : Pair) : pairField ((2 * pairCode p + 1) / 2) = p := by cases p <;> rfl
@[simp] theorem pairQField_pairQCode (q : PairQ) : pairQField (pairQCode q) = q := by cases q <;> rfl
@[simp] theorem condField_condCode (cc : Cond) : condField (condCode cc) = cc := by cases cc <;> rfl
@[simp] theorem aluField_aluCode (op : AluOp) : aluField (aluCode op) = op := by cases op <;> rfl
@[simp] theorem rotField_rotCode (op : RotOp) : rotField (rotCode op) = some op := by cases op <;> rfl
@[simp] theorem bitField_val (b : Fin 8) : bitField b.val = b := Fin.ofNat_val_eq_self b

@[simp] theorem regField_six : regField 6 = none := rfl
@[simp] theorem rotField_six : rotField 6 = none := rfl

theorem regCode_ne_six (r : Reg8) : regCode r ≠ 6 := by cases r <;> decide

section Codes
variable {k : Nat} (hk : k < 8)
include hk

theorem regCode_or_six : (∃ r, k = regCode r) ∨ k = 6 := by
  interval_cases k
  exacts [.inl ⟨.b, rfl⟩, .inl ⟨.c, rfl⟩, .inl ⟨.d, rfl⟩, .inl ⟨.e, rfl⟩, .inl ⟨.h, rfl⟩, .inl ⟨.l, rfl⟩, .inr rfl,
    .inl ⟨.a, rfl⟩]

theorem rotCode_or_six : (∃ op, k = rotCode op) ∨ k = 6 := by
  interval_cases k
  exacts [.inl ⟨.rlc, rfl⟩, .inl ⟨.rrc, rfl⟩, .inl ⟨.rl, rfl⟩, .inl ⟨.rr, rfl⟩, .inl ⟨.sla, rfl⟩, .inl ⟨.sra, rfl⟩,
    .inr rfl, .inl ⟨.srl, rfl⟩]

theorem exists_aluCode : ∃ op, k = aluCode op := ⟨aluField k, by interval_cases k <;> rfl⟩

theorem exists_condCode : ∃ cc, k = condCode cc := ⟨condField k, by interval_cases k <;> rfl⟩

theorem exists_bit : ∃ b : Fin 8, k = b.val := ⟨⟨k, hk⟩, rfl⟩

/-- A field that holds a pair and one more bit. -/
theorem exists_pairCode : ∃ p, k = 2 * pairCode p ∨ k = 2 * pairCode p + 1 :=
  ⟨pairField (k / 2), by interval_cases k <;> decide⟩

end Codes

/-! ### The encoding of each form, by its fields -/

@[simp] theorem encode_pairForms (p : Pair) :
    encode (.incPair p) = [opByte 0 (2 * pairCode p) 3] ∧ encode (.decPair p) = [opByte 0 (2 * pairCode p + 1) 3] ∧
      encode (.addHlPair p) = [opByte 0 (2 * pairCode p + 1) 1] ∧
      encode (.sbcHlPair p) = [0xED, opByte 1 (2 * pairCode p) 2] ∧
      encode (.adcHlPair p) = [0xED, opByte 1 (2 * pairCode p + 1) 2] ∧
      ∀ nn, encode (.ldMemPair p nn) = [0xED, opByte 1 (2 * pairCode p) 3, lowByte nn, highByte nn] := by
  cases p <;> exact ⟨rfl, rfl, rfl, rfl, rfl, fun _ => rfl⟩

@[simp] theorem encode_stackForms (q : PairQ) :
    encode (.pushPair q) = [opByte 3 (2 * pairQCode q) 5] ∧ encode (.popPair q) = [opByte 3 (2 * pairQCode q) 1] := by
  cases q <;> exact ⟨rfl, rfl⟩

@[simp] theorem encode_regForms (r : Reg8) :
    encode (.incReg r) = [opByte 0 (regCode r) 4] ∧ encode (.decReg r) = [opByte 0 (regCode r) 5] ∧
      (∀ n, encode (.ldRegImm r n) = [opByte 0 (regCode r) 6, n]) ∧ encode (.ldRegMemHl r) = [opByte 1 (regCode r) 6] ∧
      encode (.ldMemHlReg r) = [opByte 1 6 (regCode r)] ∧ encode (.inRegPortC r) = [0xED, opByte 1 (regCode r) 0] ∧
      encode (.outPortCReg r) = [0xED, opByte 1 (regCode r) 1] := by
  cases r <;> exact ⟨rfl, rfl, fun _ => rfl, rfl, rfl, rfl, rfl⟩

@[simp] theorem encode_ldRegReg (r q : Reg8) : encode (.ldRegReg r q) = [opByte 1 (regCode r) (regCode q)] := by
  cases r <;> cases q <;> rfl

@[simp] theorem encode_aluForms (op : AluOp) :
    encode (.aluMemHl op) = [opByte 2 (aluCode op) 6] ∧ ∀ n, encode (.aluImm op n) = [opByte 3 (aluCode op) 6, n] := by
  cases op <;> exact ⟨rfl, fun _ => rfl⟩

@[simp] theorem encode_aluReg (op : AluOp) (r : Reg8) : encode (.aluReg op r) = [opByte 2 (aluCode op) (regCode r)] := by
  cases op <;> cases r <;> rfl

@[simp] theorem encode_condForms (cc : Cond) :
    (∀ nn, encode (.jpIf cc nn) = [opByte 3 (condCode cc) 2, lowByte nn, highByte nn]) ∧
      (∀ nn, encode (.callIf cc nn) = [opByte 3 (condCode cc) 4, lowByte nn, highByte nn]) ∧
      encode (.retIf cc) = [opByte 3 (condCode cc) 0] := by
  cases cc <;> exact ⟨fun _ => rfl, fun _ => rfl, rfl⟩

@[simp] theorem encode_rotMemHl (op : RotOp) : encode (.rotMemHl op) = [0xCB, opByte 0 (rotCode op) 6] := by
  cases op <;> rfl

@[simp] theorem encode_rotReg (op : RotOp) (r : Reg8) :
    encode (.rotReg op r) = [0xCB, opByte 0 (rotCode op) (regCode r)] := by
  cases op <;> cases r <;> rfl

@[simp] theorem encode_bitForms (b : Fin 8) :
    encode (.bitMemHl b) = [0xCB, opByte 1 b.val 6] ∧ encode (.resMemHl b) = [0xCB, opByte 2 b.val 6] ∧
      encode (.setMemHl b) = [0xCB, opByte 3 b.val 6] ∧ encode (.rst b) = [opByte 3 b.val 7] := by
  fin_cases b <;> exact ⟨rfl, rfl, rfl, rfl⟩

@[simp] theorem encode_bitRegForms (b : Fin 8) (r : Reg8) :
    encode (.bitReg b r) = [0xCB, opByte 1 b.val (regCode r)] ∧ encode (.resReg b r) = [0xCB, opByte 2 b.val (regCode r)] ∧
      encode (.setReg b r) = [0xCB, opByte 3 b.val (regCode r)] := by
  fin_cases b <;> cases r <;> exact ⟨rfl, rfl, rfl⟩

@[simp] theorem encode_indexForms (x : IndexReg) :
    (∀ nn, encode (.ldMemIndex x nn) = [indexCode x, 0x22, lowByte nn, highByte nn]) ∧
      encode (.incIndex x) = [indexCode x, 0x23] ∧ encode (.decIndex x) = [indexCode x, 0x2B] ∧
      encode (.popIndex x) = [indexCode x, 0xE1] ∧ encode (.exMemSpIndex x) = [indexCode x, 0xE3] ∧
      encode (.pushIndex x) = [indexCode x, 0xE5] ∧ encode (.jpIndex x) = [indexCode x, 0xE9] := by
  cases x <;> exact ⟨fun _ => rfl, rfl, rfl, rfl, rfl, rfl, rfl⟩

@[simp] theorem encode_addIndexPair (x : IndexReg) (p : Pair) :
    encode (.addIndexPair x p) = [indexCode x, opByte 0 (2 * pairCode p + 1) 1] := by
  cases x <;> cases p <;> rfl

@[simp] theorem encode_indexedForms (x : IndexReg) (d : Byte) :
    encode (.incIndexed x d) = [indexCode x, 0x34, d] ∧ encode (.decIndexed x d) = [indexCode x, 0x35, d] ∧
      ∀ n, encode (.ldIndexedImm x d n) = [indexCode x, 0x36, d, n] := by
  cases x <;> exact ⟨rfl, rfl, fun _ => rfl⟩

@[simp] theorem encode_indexedRegForms (x : IndexReg) (r : Reg8) (d : Byte) :
    encode (.ldRegIndexed x r d) = [indexCode x, opByte 1 (regCode r) 6, d] ∧
      encode (.ldIndexedReg x r d) = [indexCode x, opByte 1 6 (regCode r), d] := by
  cases x <;> cases r <;> exact ⟨rfl, rfl⟩

@[simp] theorem encode_aluIndexed (x : IndexReg) (op : AluOp) (d : Byte) :
    encode (.aluIndexed x op d) = [indexCode x, opByte 2 (aluCode op) 6, d] := by
  cases x <;> cases op <;> rfl

@[simp] theorem encode_rotIndexed (x : IndexReg) (op : RotOp) (d : Byte) :
    encode (.rotIndexed x op d) = [indexCode x, 0xCB, d, opByte 0 (rotCode op) 6] := by
  cases x <;> cases op <;> rfl

@[simp] theorem encode_bitIndexedForms (x : IndexReg) (b : Fin 8) (d : Byte) :
    encode (.bitIndexed x b d) = [indexCode x, 0xCB, d, opByte 1 b.val 6] ∧
      encode (.resIndexed x b d) = [indexCode x, 0xCB, d, opByte 2 b.val 6] ∧
      encode (.setIndexed x b d) = [indexCode x, 0xCB, d, opByte 3 b.val 6] := by
  cases x <;> fin_cases b <;> exact ⟨rfl, rfl, rfl⟩

end Sys2Proof

/-! SUPPORT. Decoding an encoding: the operand bytes put together again (R157), row by row of the table. -/

namespace Sys2Proof

/-- A word operand read low byte first is the word whose halves the encoding holds (R157). -/
theorem withWord_halves (f : Word → Instr) (nn : Word) (t : List Byte) :
    withWord f (lowByte nn :: highByte nn :: t) = .ok (f nn, t) :=
  (withWord_ok ..).mpr ⟨nn, rfl, rfl⟩

/-- The rows with a word operand join its halves; in every other row the decoder computes to the row itself. -/
theorem decode_encode (i : Instr) (rest : List Byte) : decode (encode i ++ rest) = .ok (i, rest) := by
  cases i with
  | ldBcNn nn | ldDeNn nn | ldHlNn nn | ldSpNn nn | ldMemNnHl nn | ldHlMemNn nn | ldMemNnA nn | ldAMemNn nn
  | ldMemNnBc nn | ldMemNnDe nn | ldMemNnHlEd nn | ldMemNnSp nn | ldBcMemNn nn | ldDeMemNn nn | ldHlMemNnEd nn
  | ldSpMemNn nn | ldIxNn nn | ldIyNn nn | ldMemNnIx nn | ldMemNnIy nn | ldIxMemNn nn | ldIyMemNn nn
  | jpNn nn | jpNzNn nn | jpZNn nn | jpNcNn nn | jpCNn nn | jpPoNn nn | jpPeNn nn | jpPNn nn | jpMNn nn
  | callNn nn | callNzNn nn | callZNn nn | callNcNn nn | callCNn nn | callPoNn nn | callPeNn nn | callPNn nn
  | callMNn nn => exact withWord_halves _ nn rest
  | _ => rfl

/-- Settles O1: every instruction is well formed, and `decode_encode` holds of every instruction. -/
theorem decodeEncode : Obligations.DecodeEncode := fun i rest _ => decode_encode i rest

end Sys2Proof

namespace Sys2Proof.Machine

/-- Settles O5: a boundary where nothing is accepted is phase 3, a running CPU decodes what it fetched, and that is `i` by
`decode_encode`. -/
theorem stepRunsDecoded : Obligations.StepRunsDecoded := by
  intro s i rest hquiet hrunning _ hfetch
  have hexec : s.phase3 = exec i s := by
    simp [State.phase3, State.executeInstruction, hrunning, hfetch, decode_encode]
  rw [step_undisturbed s hquiet, hexec]

end Sys2Proof.Machine

/-! SUPPORT. Whatever a page of the decoder answers, the bytes it read are the encoding of its answer (R164): each field of the
opcode byte is the code of the operand it selects. -/

namespace Sys2Proof
open Machine

/-- If the bytes `p` with `t` after them gave an instruction and a rest, they are its encoding and that rest. -/
def Faithful (p t : List Byte) : DecodeResult → Prop
  | .ok (i, rest) => p ++ t = encode i ++ rest
  | .error _ => True

@[simp] theorem faithful_error (p t : List Byte) (e : DecodeError) : Faithful p t (.error e) := trivial

@[simp] theorem faithful_plain (p t : List Byte) (i : Instr) : Faithful p t (plain i t) ↔ p = encode i :=
  List.append_left_inj t

theorem faithful_withByte {p : List Byte} {f : Byte → Instr} (h : ∀ n, encode (f n) = p ++ [n]) (t : List Byte) :
    Faithful p t (withByte f t) := by
  cases t with
  | nil => trivial
  | cons n t => simp [withByte, Faithful, h]

theorem faithful_withWord {p : List Byte} {f : Word → Instr} (h : ∀ nn, encode (f nn) = p ++ [lowByte nn, highByte nn])
    (t : List Byte) : Faithful p t (withWord f t) := by
  match t with
  | [] | [_] => trivial
  | lo :: hi :: _ => simp [withWord, Faithful, h]

theorem faithful_withTwo {p : List Byte} {f : Byte → Byte → Instr} (h : ∀ m n, encode (f m n) = p ++ [m, n])
    (t : List Byte) : Faithful p t (withTwo f t) := by
  match t with
  | [] | [_] => trivial
  | m :: n :: _ => simp [withTwo, Faithful, h]

/-! ### The pages -/

section Pages
variable {k y z : Nat} (hk : k < 4) (hy : y < 8) (hz : z < 8) (x : IndexReg) (t : List Byte)

include hy hz

theorem decodeMain0_faithful : Faithful [opByte 0 y z] t (decodeMain0 y z t) := by
  interval_cases z
  · interval_cases y
    iterate 2 exact (faithful_plain ..).mpr rfl
    all_goals exact faithful_withByte (fun _ => rfl) t
  · obtain ⟨p, rfl | rfl⟩ := exists_pairCode hy
    · simp [decodeMain0, faithful_withWord, encode_ldPairImm]
    · simp [decodeMain0]
  · interval_cases y
    iterate 4 exact (faithful_plain ..).mpr rfl
    all_goals exact faithful_withWord (fun _ => rfl) t
  · obtain ⟨p, rfl | rfl⟩ := exists_pairCode hy <;> simp [decodeMain0]
  · obtain ⟨r, rfl⟩ | rfl := regCode_or_six hy
    · simp [decodeMain0]
    · exact (faithful_plain ..).mpr rfl
  · obtain ⟨r, rfl⟩ | rfl := regCode_or_six hy
    · simp [decodeMain0]
    · exact (faithful_plain ..).mpr rfl
  · obtain ⟨r, rfl⟩ | rfl := regCode_or_six hy
    · simp [decodeMain0, faithful_withByte]
    · exact faithful_withByte (fun _ => rfl) t
  · interval_cases y <;> exact (faithful_plain ..).mpr rfl

theorem decodeMain1_faithful : Faithful [opByte 1 y z] t (decodeMain1 y z t) := by
  obtain ⟨r, rfl⟩ | rfl := regCode_or_six hy <;> obtain ⟨q, rfl⟩ | rfl := regCode_or_six hz
  · simp [decodeMain1]
  · simp [decodeMain1]
  · simp [decodeMain1]
  · exact (faithful_plain ..).mpr rfl

theorem decodeMain2_faithful : Faithful [opByte 2 y z] t (decodeMain2 y z t) := by
  obtain ⟨op, rfl⟩ := exists_aluCode hy
  obtain ⟨r, rfl⟩ | rfl := regCode_or_six hz <;> simp [decodeMain2]

theorem decodeMain3_faithful (hop : opByte 3 y z ∉ [0xCB, 0xDD, 0xED, 0xFD]) :
    Faithful [opByte 3 y z] t (decodeMain3 y z t) := by
  interval_cases z
  · obtain ⟨cc, rfl⟩ := exists_condCode hy
    simp [decodeMain3]
  · interval_cases y <;> exact (faithful_plain ..).mpr rfl
  · obtain ⟨cc, rfl⟩ := exists_condCode hy
    simp [decodeMain3, faithful_withWord]
  · interval_cases y
    · exact faithful_withWord (fun _ => rfl) t
    · exact absurd (by decide) hop
    iterate 2 exact faithful_withByte (fun _ => rfl) t
    all_goals exact (faithful_plain ..).mpr rfl
  · obtain ⟨cc, rfl⟩ := exists_condCode hy
    simp [decodeMain3, faithful_withWord]
  · interval_cases y
    · exact (faithful_plain ..).mpr rfl
    · exact faithful_withWord (fun _ => rfl) t
    · exact (faithful_plain ..).mpr rfl
    · exact absurd (by decide) hop
    · exact (faithful_plain ..).mpr rfl
    · exact absurd (by decide) hop
    · exact (faithful_plain ..).mpr rfl
    · exact absurd (by decide) hop
  · obtain ⟨op, rfl⟩ := exists_aluCode hy
    simp [decodeMain3, faithful_withByte]
  · obtain ⟨b, rfl⟩ := exists_bit hy
    simp [decodeMain3]

theorem decodeEd1_faithful : Faithful [0xED, opByte 1 y z] t (decodeEd1 (opByte 1 y z) t) := by
  unfold decodeEd1
  rw [fieldY_opByte (by decide) hy hz, fieldZ_opByte (by decide) hy hz]
  dsimp only
  split
  iterate 2 obtain ⟨r, rfl⟩ | rfl := regCode_or_six hy <;> simp
  iterate 2 obtain ⟨p, rfl | rfl⟩ := exists_pairCode hy <;> simp [faithful_withWord, encode_ldPairMem]
  iterate 12 exact (faithful_plain ..).mpr rfl
  trivial

theorem decodeEd2_faithful : Faithful [0xED, opByte 2 y z] t (decodeEd2 (opByte 2 y z) t) := by
  unfold decodeEd2
  rw [fieldY_opByte (by decide) hy hz, fieldZ_opByte (by decide) hy hz]
  split
  iterate 16 exact (faithful_plain ..).mpr rfl
  trivial

theorem decodeIndex0_faithful : Faithful [indexCode x, opByte 0 y z] t (decodeIndex0 x (opByte 0 y z) t) := by
  unfold decodeIndex0
  rw [fieldY_opByte (by decide) hy hz, fieldZ_opByte (by decide) hy hz]
  split
  iterate 8 simp [opByte, faithful_withByte, faithful_withWord, faithful_withTwo, encode_ldIndexImm, encode_ldIndexMem]
  · obtain ⟨p, rfl | rfl⟩ := exists_pairCode hy <;> simp
  · trivial

theorem decodeIndex1_faithful : Faithful [indexCode x, opByte 1 y z] t (decodeIndex1 x (opByte 1 y z) t) := by
  unfold decodeIndex1
  rw [fieldY_opByte (by decide) hy hz, fieldZ_opByte (by decide) hy hz]
  obtain ⟨r, rfl⟩ | rfl := regCode_or_six hy <;> obtain ⟨q, rfl⟩ | rfl := regCode_or_six hz
  all_goals simp [faithful_withByte]

theorem decodeIndex2_faithful : Faithful [indexCode x, opByte 2 y z] t (decodeIndex2 x (opByte 2 y z) t) := by
  unfold decodeIndex2
  rw [fieldY_opByte (by decide) hy hz, fieldZ_opByte (by decide) hy hz]
  obtain ⟨op, rfl⟩ := exists_aluCode hy
  obtain ⟨r, rfl⟩ | rfl := regCode_or_six hz <;> simp [faithful_withByte]

theorem decodeIndex3_faithful : Faithful [indexCode x, opByte 3 y z] t (decodeIndex3 x (opByte 3 y z) t) := by
  unfold decodeIndex3
  rw [fieldY_opByte (by decide) hy hz, fieldZ_opByte (by decide) hy hz]
  split
  iterate 5 simp [opByte, encode_ldSpIndex]
  trivial

include hk

theorem decodeCb_faithful : Faithful [0xCB, opByte k y z] t (decodeCb (opByte k y z) t) := by
  unfold decodeCb
  rw [fieldX_opByte hk hy hz, fieldY_opByte hk hy hz, fieldZ_opByte hk hy hz]
  interval_cases k
  · obtain ⟨op, rfl⟩ | rfl := rotCode_or_six hy <;> obtain ⟨r, rfl⟩ | rfl := regCode_or_six hz <;> simp
  all_goals
    obtain ⟨b, rfl⟩ := exists_bit hy
    obtain ⟨r, rfl⟩ | rfl := regCode_or_six hz <;> simp

theorem decodeIndexCb_faithful (d : Byte) :
    Faithful [indexCode x, 0xCB, d, opByte k y z] t (decodeIndexCb x d (opByte k y z) t) := by
  unfold decodeIndexCb
  rw [fieldX_opByte hk hy hz, fieldY_opByte hk hy hz, fieldZ_opByte hk hy hz]
  obtain ⟨r, rfl⟩ | rfl := regCode_or_six hz
  · simp
  interval_cases k
  · obtain ⟨op, rfl⟩ | rfl := rotCode_or_six hy <;> simp
  all_goals
    obtain ⟨b, rfl⟩ := exists_bit hy
    simp

end Pages

theorem decodeMain_faithful {op : Byte} (hop : op ∉ [0xCB, 0xDD, 0xED, 0xFD]) (t : List Byte) :
    Faithful [op] t (decodeMain op t) := by
  obtain ⟨k, y, z, hk, hy, hz, rfl⟩ := exists_opByte op
  unfold decodeMain
  rw [fieldX_opByte hk hy hz, fieldY_opByte hk hy hz, fieldZ_opByte hk hy hz]
  interval_cases k
  · exact decodeMain0_faithful hy hz t
  · exact decodeMain1_faithful hy hz t
  · exact decodeMain2_faithful hy hz t
  · exact decodeMain3_faithful hy hz t hop

theorem decodeEd_faithful (op : Byte) (t : List Byte) : Faithful [0xED, op] t (decodeEd op t) := by
  obtain ⟨k, y, z, hk, hy, hz, rfl⟩ := exists_opByte op
  unfold decodeEd
  rw [fieldX_opByte hk hy hz]
  split
  · exact decodeEd1_faithful hy hz t
  · exact decodeEd2_faithful hy hz t
  · split
    · next hpatch => exact (faithful_plain ..).mpr (by rw [hpatch]; rfl)
    · trivial

/-- A byte of the bytes that follow may be counted among those read. -/
theorem Faithful.cons {p t : List Byte} {b : Byte} {r : DecodeResult} (h : Faithful (p ++ [b]) t r) :
    Faithful p (b :: t) r := by
  cases r with
  | error => trivial
  | ok => simpa [Faithful] using h

theorem decodeIndex_faithful (x : IndexReg) (t : List Byte) : Faithful [indexCode x] t (decodeIndex x t) := by
  unfold decodeIndex
  split
  · trivial
  · next op t =>
    obtain ⟨k, y, z, hk, hy, hz, rfl⟩ := exists_opByte op
    split
    · next hcb =>
      split
      · next d op t =>
        obtain ⟨k, y, z, hk, hy, hz, rfl⟩ := exists_opByte op
        rw [hcb]
        exact (decodeIndexCb_faithful hk hy hz x t d).cons.cons.cons
      · trivial
    · rw [fieldX_opByte hk hy hz]
      interval_cases k
      · exact (decodeIndex0_faithful hy hz x t).cons
      · exact (decodeIndex1_faithful hy hz x t).cons
      · exact (decodeIndex2_faithful hy hz x t).cons
      · exact (decodeIndex3_faithful hy hz x t).cons

theorem decode_faithful (bytes : List Byte) : Faithful [] bytes (decode bytes) := by
  unfold decode
  split
  · trivial
  · next op t =>
    split
    · next hcb =>
      split
      · trivial
      · next op t =>
        obtain ⟨k, y, z, hk, hy, hz, rfl⟩ := exists_opByte op
        rw [hcb]
        exact (decodeCb_faithful hk hy hz t).cons.cons
    split
    · next hed =>
      split
      · trivial
      · rw [hed]
        exact (decodeEd_faithful ..).cons.cons
    split
    · next hdd => exact hdd ▸ (decodeIndex_faithful .ix t).cons
    split
    · next hfd => exact hfd ▸ (decodeIndex_faithful .iy t).cons
    · exact (decodeMain_faithful (by simp_all) t).cons

/-- Settles O2: `decode_faithful`, read at a result that is an instruction. -/
theorem decodedBytesAreEncodings : Obligations.DecodedBytesAreEncodings := by
  intro bytes rest i h
  have hbytes := decode_faithful bytes
  rwa [h] at hbytes

end Sys2Proof

/-! SUPPORT. The encodings that no row holds (R158 to R162): where the decoder answers `undocumented`. -/

namespace Sys2Proof
open Machine

/-- The decoder answers that the encoding is undocumented (R162). -/
def Undocumented (r : DecodeResult) : Prop := ∃ bytes, r = .error (.undocumented bytes)

@[simp] theorem undocumented_error (bytes : List Byte) : Undocumented (.error (.undocumented bytes)) := ⟨bytes, rfl⟩

/-- The opcode bytes of the DD grid that stand alone, outside the rows of `(IX+d)` (R158). -/
def indexGrid : List Byte :=
  [0x09, 0x19, 0x21, 0x22, 0x23, 0x29, 0x2A, 0x2B, 0x34, 0x35, 0x36, 0x39, 0xCB, 0xE1, 0xE3, 0xE5, 0xE9, 0xF9]

section Pages
variable {k y z : Nat} (hk : k < 4) (hy : y < 8) (hz : z < 8) (x : IndexReg) (t : List Byte)

theorem decodeCb_sll (hz : z < 8) : Undocumented (decodeCb (opByte 0 6 z) t) := by
  unfold decodeCb
  rw [fieldX_opByte (by decide) (by decide) hz, fieldY_opByte (by decide) (by decide) hz]
  exact ⟨_, rfl⟩

include hy hz

theorem decodeEd2_undocumented (h : y < 4 ∨ 4 ≤ z) : Undocumented (decodeEd2 (opByte 2 y z) t) := by
  unfold decodeEd2
  rw [fieldY_opByte (by decide) hy hz, fieldZ_opByte (by decide) hy hz]
  split
  iterate 16 omega
  exact undocumented_error _

theorem decodeIndex0_undocumented (hop : opByte 0 y z ∉ indexGrid) :
    Undocumented (decodeIndex0 x (opByte 0 y z) t) := by
  unfold decodeIndex0
  rw [fieldY_opByte (by decide) hy hz, fieldZ_opByte (by decide) hy hz]
  split
  iterate 8 exact absurd (by decide) hop
  · obtain ⟨p, rfl | rfl⟩ := exists_pairCode hy
    · simp
    · cases p <;> exact absurd (by decide) hop
  · exact undocumented_error _

theorem decodeIndex1_undocumented (h : y = 6 ↔ z = 6) : Undocumented (decodeIndex1 x (opByte 1 y z) t) := by
  unfold decodeIndex1
  rw [fieldY_opByte (by decide) hy hz, fieldZ_opByte (by decide) hy hz]
  obtain ⟨r, rfl⟩ | rfl := regCode_or_six hy <;> obtain ⟨q, rfl⟩ | rfl := regCode_or_six hz
  all_goals simp_all [regCode_ne_six]

theorem decodeIndex2_undocumented (hz6 : z ≠ 6) : Undocumented (decodeIndex2 x (opByte 2 y z) t) := by
  unfold decodeIndex2
  rw [fieldZ_opByte (by decide) hy hz]
  obtain ⟨r, rfl⟩ := (regCode_or_six hz).resolve_right hz6
  simp

theorem decodeIndex3_undocumented (hop : opByte 3 y z ∉ indexGrid) :
    Undocumented (decodeIndex3 x (opByte 3 y z) t) := by
  unfold decodeIndex3
  rw [fieldY_opByte (by decide) hy hz, fieldZ_opByte (by decide) hy hz]
  split
  iterate 5 exact absurd (by decide) hop
  exact undocumented_error _

include hk

theorem decodeIndexCb_undocumented (d : Byte) (h : z ≠ 6 ∨ k = 0 ∧ y = 6) :
    Undocumented (decodeIndexCb x d (opByte k y z) t) := by
  unfold decodeIndexCb
  rw [fieldX_opByte hk hy hz, fieldY_opByte hk hy hz, fieldZ_opByte hk hy hz]
  obtain ⟨r, rfl⟩ | rfl := regCode_or_six hz
  · simp
  · obtain ⟨rfl, rfl⟩ := h.resolve_left (by decide)
    exact ⟨_, rfl⟩

end Pages

/-! ### The ED, DD and FD pages -/

/-- The bytes of the ED page with `x = 1` that no row holds (R161). -/
def edGaps : List Byte :=
  [0x4C, 0x4E, 0x54, 0x55, 0x5C, 0x5D, 0x64, 0x65, 0x66, 0x6C, 0x6D, 0x6E, 0x70, 0x71, 0x74, 0x75, 0x76, 0x77, 0x7C, 0x7D,
    0x7E, 0x7F]

theorem decodeEd_undocumented {op : Byte} (t : List Byte)
    (hop : op ∈ edGaps ∨ op.toNat < 0x40 ∨ (0x80 ≤ op.toNat ∧ op.toNat < 0xA0) ∨ (0xC0 ≤ op.toNat ∧ op ≠ 0xFE) ∨
      (0xA0 ≤ op.toNat ∧ op.toNat < 0xC0 ∧ 4 ≤ op.toNat % 8)) : Undocumented (decodeEd op t) := by
  obtain hgap | hfields := hop
  · unfold edGaps at hgap
    fin_cases hgap <;> exact ⟨_, rfl⟩
  have hpatch : op ≠ 0xFE := fun h => by simp [h] at hfields
  obtain ⟨k, y, z, hk, hy, hz, rfl⟩ := exists_opByte op
  rw [opByte_toNat hk hy hz] at hfields
  unfold decodeEd
  rw [fieldX_opByte hk hy hz, if_neg hpatch]
  interval_cases k
  · exact undocumented_error _
  · omega
  · exact decodeEd2_undocumented hy hz t (by omega)
  · exact undocumented_error _

theorem decode_indexCode (x : IndexReg) (t : List Byte) : decode (indexCode x :: t) = decodeIndex x t := by
  cases x <;> rfl

theorem decodeIndex_undocumented {op : Byte} (x : IndexReg) (t : List Byte) (hgrid : op ∉ indexGrid)
    (hload : ¬(op.toNat / 64 = 1 ∧ op.toNat % 8 = 6 ∧ op.toNat / 8 % 8 ≠ 6))
    (hstore : ¬(op.toNat / 8 = 0x0E ∧ op.toNat % 8 ≠ 6)) (halu : ¬(op.toNat / 64 = 2 ∧ op.toNat % 8 = 6)) :
    Undocumented (decodeIndex x (op :: t)) := by
  have hcb : op ≠ 0xCB := fun h => hgrid (by rw [h]; decide)
  obtain ⟨k, y, z, hk, hy, hz, rfl⟩ := exists_opByte op
  rw [opByte_toNat hk hy hz] at hload hstore halu
  unfold decodeIndex
  dsimp only
  rw [if_neg hcb, fieldX_opByte hk hy hz]
  interval_cases k
  · exact decodeIndex0_undocumented hy hz x t hgrid
  · exact decodeIndex1_undocumented hy hz x t (by omega)
  · exact decodeIndex2_undocumented hy hz x t (by omega)
  · exact decodeIndex3_undocumented hy hz x t hgrid

/-- Settles O4, page by page. -/
theorem undocumentedEncodings : Obligations.UndocumentedEncodings := by
  intro op d x rest
  refine ⟨fun hlo hhi => ?_, fun hed => ?_, fun hgrid hload hstore halu => ?_, fun hcb => ?_⟩
  · have hop : op = opByte 0 6 (op.toNat - 0x30) := by
      apply BitVec.eq_of_toNat_eq
      rw [opByte_toNat] <;> omega
    rw [hop]
    exact decodeCb_sll rest (by omega)
  · exact decodeEd_undocumented rest hed
  · rw [decode_indexCode]
    exact decodeIndex_undocumented x rest hgrid hload hstore halu
  · obtain ⟨k, y, z, hk, hy, hz, rfl⟩ := exists_opByte op
    have hfields : z ≠ 6 ∨ k = 0 ∧ y = 6 := by
      rw [← BitVec.toNat_inj, opByte_toNat hk hy hz] at hcb
      have h36 : (0x36 : Byte).toNat = 0x36 := rfl
      omega
    rw [decode_indexCode]
    exact decodeIndexCb_undocumented hk hy hz x rest d hfields

end Sys2Proof

/-! SUPPORT. The 8-bit loads and the stores: the shared operation that each operand form calls, and the loads of A, I and R. -/

namespace Sys2Proof.Machine

/-! ### The shared operation of each operand form -/

theorem exec_ldRegReg (s : State) (r q : Reg8) : exec (.ldRegReg r q) s = loadReg s r (s.reg8 q) 1 4 := by
  cases r <;> cases q <;> rfl

theorem exec_ldRegImm (s : State) (r : Reg8) (n : Byte) : exec (.ldRegImm r n) s = loadReg s r n 2 7 := by
  cases r <;> rfl

theorem exec_ldRegMemHl (s : State) (r : Reg8) : exec (.ldRegMemHl r) s = loadReg s r (s.readByte s.hl) 1 7 := by
  cases r <;> rfl

theorem exec_ldRegIndexed (s : State) (x : IndexReg) (r : Reg8) (d : Byte) :
    exec (.ldRegIndexed x r d) s = loadReg s r (s.readByte (s.index x + d.signExtend 16)) 3 19 := by
  cases x <;> cases r <;> rfl

theorem exec_ldMemHlReg (s : State) (r : Reg8) : exec (.ldMemHlReg r) s = storeByte s s.hl (s.reg8 r) 1 7 := by
  cases r <;> rfl

theorem exec_ldIndexedReg (s : State) (x : IndexReg) (r : Reg8) (d : Byte) :
    exec (.ldIndexedReg x r d) s = storeByte s (s.index x + d.signExtend 16) (s.reg8 r) 3 19 := by
  cases x <;> cases r <;> rfl

theorem exec_ldIndexedImm (s : State) (x : IndexReg) (d n : Byte) :
    exec (.ldIndexedImm x d n) s = storeByte s (s.index x + d.signExtend 16) n 4 19 := by
  cases x <;> rfl

theorem exec_ldMemPair (s : State) (p : Pair) (nn : Word) : exec (.ldMemPair p nn) s = storeWord s nn (s.pair p) 4 20 := by
  cases p <;> rfl

theorem exec_ldMemIndex (s : State) (x : IndexReg) (nn : Word) :
    exec (.ldMemIndex x nn) s = storeWord s nn (s.index x) 4 20 := by
  cases x <;> rfl

/-- `LD (nn),HL`: L at `nn`, H at `nn + 1` (R85, R237). -/
theorem ldMemNnHl_spec (s : State) (nn : Word) :
    ∃ t, exec (.ldMemNnHl nn) s = .next t ∧ t.cpu = s.cpu.past 3 ∧
      s.storesTwo t nn s.cpu.main.l (nn + 1) s.cpu.main.h ∧ s.charged t 16 ∧ s.quiet t := by
  have hstore := storeWord_spec s nn s.hl 3 16
  rwa [State.hl, lowByte_joinBytes, highByte_joinBytes] at hstore

/-! ### The loads of A, I and R -/

/-- A load of A with the flags of R217 and R218, from the state whose next draw gives the open flags. -/
theorem loadIr_spec (s : State) (v : Byte) :
    ∃ t, (((s.advance 2).setA v).writeFlags fun d => loadIrFlags d s.flags v s.cpu.iff2).finish 9 = .next t ∧
      s.onlyMain t 2 ∧ s.onlyReg t .a v ∧ t.cpu.main.f.s = v.getLsbD 7 ∧ t.cpu.main.f.z = decide (v = 0) ∧
      t.cpu.main.f.h = false ∧ t.cpu.main.f.pv = s.cpu.iff2 ∧ t.cpu.main.f.n = false ∧
      t.cpu.main.f.c = s.cpu.main.f.c ∧ s.storesNothing t ∧ s.charged t 9 ∧ s.quiet t := by
  obtain ⟨t, hnext, hmain, hreg, hflags, hkept⟩ :=
    flagged_spec s .a v (fun d => loadIrFlags d s.flags v s.cpu.iff2) 2 9
  refine ⟨t, hnext, hmain, hreg, ?_⟩
  rw [hflags]
  exact ⟨msb8 v, rfl, rfl, rfl, rfl, rfl, hkept⟩

/-- Bit 7 of what `LD A,R` gives is R7, whatever was drawn (R37). -/
theorem refreshByte_bit7 (r7 : Bool) (drawn : Byte) : (refreshByte r7 drawn).getLsbD 7 = r7 := by
  rw [← msb8, refreshByte, BitVec.msb_append]
  simp

/-- `LD A,R` draws twice: bits 6:0 of the value from `s`, the open flags from `s.nextDraw` (R218). -/
theorem ldAR_spec (s : State) :
    ∃ t v, exec .ldAR s = .next t ∧ s.onlyMain t 2 ∧ s.onlyReg t .a v ∧ v.getLsbD 7 = s.cpu.r7 ∧
      t.cpu.main.f.s = v.getLsbD 7 ∧ t.cpu.main.f.z = decide (v = 0) ∧ t.cpu.main.f.h = false ∧
      t.cpu.main.f.pv = s.cpu.iff2 ∧ t.cpu.main.f.n = false ∧ t.cpu.main.f.c = s.cpu.main.f.c ∧
      s.storesNothing t ∧ s.charged t 9 ∧ s.quiet t := by
  obtain ⟨t, hnext, hmain, hreg, hkept⟩ := loadIr_spec s.nextDraw (refreshByte s.cpu.r7 (Config.draw s.draws))
  exact ⟨t, _, hnext, hmain, hreg, refreshByte_bit7 _ _, hkept⟩

/-- `LD R,A`: the top bit of A is kept as R7 (R220). -/
theorem ldRA_spec (s : State) :
    ∃ t, exec .ldRA s = .next t ∧ t.cpu = { s.cpu.past 2 with r7 := s.cpu.main.a.getLsbD 7 } ∧
      s.storesNothing t ∧ s.charged t 9 ∧ s.quiet t := by
  rw [← msb8]
  exact control_spec s _ 9 rfl

/-! ### The statements -/

/-- Settles O28: every form is `loadReg` of its operand, read in the state before the instruction. -/
theorem byteLoads : Obligations.ByteLoads := by
  refine ⟨⟨fun r q s => ⟨encode_ldRegReg r q, ?_⟩, fun r n s => ⟨by simp, ?_⟩⟩,
    fun s => ⟨fun r => ⟨by simp, ?_⟩, fun x r d => ⟨by simp, ?_⟩, ⟨rfl, loadReg_spec s .a (s.readByte s.bc) 1 7⟩,
      ⟨rfl, loadReg_spec s .a (s.readByte s.de) 1 7⟩, fun nn => ⟨rfl, loadReg_spec s .a (s.readByte nn) 3 13⟩⟩⟩
  · rw [exec_ldRegReg]
    exact loadReg_spec s r (s.reg8 q) 1 4
  · rw [exec_ldRegImm]
    exact loadReg_spec s r n 2 7
  · rw [exec_ldRegMemHl]
    exact loadReg_spec s r (s.readByte s.hl) 1 7
  · rw [exec_ldRegIndexed]
    exact loadReg_spec s r _ 3 19

/-- Settles O29: a byte form is `storeByte`, a word form is `storeWord`, each at its address before the instruction. -/
theorem storeForms : Obligations.StoreForms := by
  refine ⟨fun s => ⟨fun r => ⟨by simp, ?_⟩, fun x r d => ⟨by simp, ?_⟩, fun n => ⟨rfl, storeByte_spec s s.hl n 2 10⟩,
      fun x d n => ⟨by simp, ?_⟩, ⟨rfl, storeByte_spec s s.bc s.cpu.main.a 1 7⟩,
      ⟨rfl, storeByte_spec s s.de s.cpu.main.a 1 7⟩, fun nn => ⟨rfl, storeByte_spec s nn s.cpu.main.a 3 13⟩⟩,
    fun s nn => ⟨⟨rfl, ldMemNnHl_spec s nn⟩, fun p => ⟨by simp, ?_⟩, fun x => ⟨by simp, ?_⟩⟩⟩
  · rw [exec_ldMemHlReg]
    exact storeByte_spec s s.hl (s.reg8 r) 1 7
  · rw [exec_ldIndexedReg]
    exact storeByte_spec s _ (s.reg8 r) 3 19
  · rw [exec_ldIndexedImm]
    exact storeByte_spec s _ n 4 19
  · rw [exec_ldMemPair]
    exact storeWord_spec s nn (s.pair p) 4 20
  · rw [exec_ldMemIndex]
    exact storeWord_spec s nn (s.index x) 4 20

/-- Settles O30: `LD A,I` and `LD A,R` are loads of A with the flags of `loadIrFlags`; `LD I,A` and `LD R,A` write the CPU's own
state alone. -/
theorem interruptRegisterLoads : Obligations.InterruptRegisterLoads := fun s =>
  ⟨⟨rfl, loadIr_spec s s.cpu.i⟩, ⟨rfl, ldAR_spec s⟩, ⟨rfl, control_spec s _ 9 rfl⟩, ⟨rfl, ldRA_spec s⟩⟩

end Sys2Proof.Machine

/-! SUPPORT. The pushes and pops: the shared operation of each operand form, and what a pop leaves in its registers. -/

namespace Sys2Proof.Machine

theorem exec_pushPair (s : State) (q : PairQ) : exec (.pushPair q) s = pushWord s (s.pairQ q) 1 11 := by
  cases q <;> rfl

theorem exec_pushIndex (s : State) (x : IndexReg) : exec (.pushIndex x) s = pushWord s (s.index x) 2 15 := by
  cases x <;> rfl

theorem exec_popPair (s : State) (q : PairQ) : exec (.popPair q) s = popToPair s q 1 10 := by
  cases q <;> rfl

theorem exec_popIndex (s : State) (x : IndexReg) : exec (.popIndex x) s = popToIndex s x 2 14 := by
  cases x <;> rfl

/-- An index register is read from the CPU alone. -/
theorem State.index_congr {s t : State} (hix : t.cpu.ix = s.cpu.ix) (hiy : t.cpu.iy = s.cpu.iy) (x : IndexReg) :
    t.index x = s.index x := by
  cases x
  · exact hix
  · exact hiy

/-- A pop into an index register leaves the main bank and the other index register (R33, R248, R249). -/
theorem popToIndex_keepsMain (s : State) (x : IndexReg) (len cost : Nat) :
    ∃ t, popToIndex s x len cost = .next t ∧ s.storesNothing t ∧ s.charged t cost ∧ s.quiet t ∧
      t.cpu = { (s.setIndex x s.popValue).cpu.past len with sp := s.cpu.sp + 2 } ∧ t.index x = s.popValue ∧
      (∀ y, y ≠ x → t.index y = s.index y) ∧ s.sameRegs t ∧ s.sameFlags t := by
  obtain ⟨t, hnext, hcpu, hstores, hcharged, hquiet⟩ := popToIndex_spec s x len cost
  have hindex : ∀ y, t.index y = (s.setIndex x s.popValue).index y :=
    State.index_congr (by rw [hcpu]) (by rw [hcpu])
  have hmain : t.cpu.main = s.cpu.main := by rw [hcpu, State.setIndex_main]
  refine ⟨t, hnext, hstores, hcharged, hquiet, hcpu, ?_, fun y hy => ?_, s.sameRegs_of_main t hmain⟩
  · rw [hindex, State.setIndex_same]
  · rw [hindex, State.setIndex_other _ _ _ _ hy]

/-- Settles O32: a push is `pushWord` of its register, and a pop is `popToPair` or `popToIndex` of `popValue`, whose halves are
the byte at SP + 1 and the byte at SP. -/
theorem pushAndPop : Obligations.PushAndPop := by
  refine ⟨fun s => ⟨fun q => ⟨(encode_stackForms q).1, ?_⟩, fun x => ⟨by simp, ?_⟩⟩,
    fun s => ⟨fun q => ⟨(encode_stackForms q).2, ?_⟩, fun x => ⟨by simp, ?_⟩⟩⟩
  · rw [exec_pushPair]
    exact pushWord_spec s (s.pairQ q) 1 11
  · rw [exec_pushIndex]
    exact pushWord_spec s (s.index x) 2 15
  · obtain ⟨t, hnext, hcpu, hstores, hcharged, hquiet⟩ := popToPair_spec s q 1 10
    refine ⟨t, (exec_popPair s q).trans hnext, hstores, hcharged, hquiet, ?_, ?_⟩
    · cases q <;> simp [hcpu, State.setPairQ, State.popValue]
    · rintro rfl
      simp [hcpu, State.setPairQ, State.popValue, Flags.toByte_ofByte]
  · rw [exec_popIndex]
    exact popToIndex_keepsMain s x 2 14

end Sys2Proof.Machine

/-! SUPPORT. The exchanges, the block transfers and the block searches: one rule for both forms of `EX (SP)`, the shared
operation of each operand form, and the flags against the rules' formulas. -/

namespace Sys2Proof.Machine

/-! ### The exchanges -/

theorem exec_exMemSpIndex (s : State) (x : IndexReg) :
    exec (.exMemSpIndex x) s =
      ((exchangeStack (s.advance 2) (s.index x)).setIndex x (s.readWord s.cpu.sp)).finish 23 := by
  cases x <;> rfl

/-- `control_spec` in the order of O33's statement: what is kept, then the CPU. -/
theorem control_keeps (s t : State) (cost : Nat) (h : t = { s with cpu := t.cpu }) :
    ∃ u, t.finish cost = .next u ∧ s.storesNothing u ∧ s.charged u cost ∧ s.quiet u ∧
      u.cpu = { t.cpu with eiDelay := false } := by
  obtain ⟨u, hnext, hcpu, hstores, hcharged, hquiet⟩ := control_spec s t cost h
  exact ⟨u, hnext, hstores, hcharged, hquiet, hcpu⟩

/-- `EX DE,HL` moves whole bytes between the two pairs (R260). -/
theorem exDeHl_spec (s : State) :
    ∃ t, exec .exDeHl s = .next t ∧ s.storesNothing t ∧ s.charged t 4 ∧ s.quiet t ∧
      t.cpu = { s.cpu.past 1 with
        main := { s.cpu.main with d := s.cpu.main.h, e := s.cpu.main.l, h := s.cpu.main.d, l := s.cpu.main.e } } := by
  obtain ⟨t, hnext, hstores, hcharged, hquiet, hcpu⟩ := control_keeps s (((s.advance 1).setDe s.hl).setHl s.de) 4 rfl
  exact ⟨t, hnext, hstores, hcharged, hquiet, by simp [hcpu, State.hl, State.de]⟩

@[simp] theorem exchangeStack_cpu (s : State) (v : Word) : (exchangeStack s v).cpu = s.cpu := by
  simp [exchangeStack]

/-- The rule of every `EX (SP),rr`: after the two writes the instruction changes only the CPU's own state (R263 to R265). -/
theorem exchangeStack_spec (s u : State) (v : Word) (len cost : Nat)
    (h : u = { exchangeStack (s.advance len) v with cpu := u.cpu }) :
    ∃ t, u.finish cost = .next t ∧ t.cpu = { u.cpu with eiDelay := false } ∧
      s.storesTwo t (s.cpu.sp + 1) (highByte v) s.cpu.sp (lowByte v) ∧ s.charged t cost ∧ s.quiet t := by
  rw [h]
  refine ⟨_, rfl, rfl, State.storesTwo_of _ _ _ _ _ _ ?_, ?_, ?_⟩
  · exact exchangeStack_sameMemory s (s.advance len) v ⟨rfl, rfl, rfl, rfl, rfl, rfl, rfl⟩ rfl
  · simp [State.charged, exchangeStack]
  · simp [State.quiet, exchangeStack]

/-- `EX (SP),HL`: the halves of HL go to the stack, the bytes of the stack to H and L (R263). -/
theorem exMemSpHl_spec (s : State) :
    ∃ t, exec .exMemSpHl s = .next t ∧ s.charged t 19 ∧ s.quiet t ∧
      t.cpu = { s.cpu.past 1 with
        main := { s.cpu.main with h := s.readByte (s.cpu.sp + 1), l := s.readByte s.cpu.sp } } ∧
      s.storesTwo t (s.cpu.sp + 1) s.cpu.main.h s.cpu.sp s.cpu.main.l := by
  obtain ⟨t, hnext, hcpu, hstores, hcharged, hquiet⟩ :=
    exchangeStack_spec s ((exchangeStack (s.advance 1) s.hl).setHl (s.readWord s.cpu.sp)) s.hl 1 19 rfl
  rw [State.hl, highByte_joinBytes, lowByte_joinBytes] at hstores
  exact ⟨t, hnext, hcharged, hquiet, by simp [hcpu, State.readWord], hstores⟩

/-- `EX (SP),IX` and `EX (SP),IY`: the main bank and the other index register are as before (R264, R265). -/
theorem exMemSpIndex_spec (s : State) (x : IndexReg) :
    ∃ t, exec (.exMemSpIndex x) s = .next t ∧ s.charged t 23 ∧ s.quiet t ∧
      t.cpu = (s.setIndex x (s.readWord s.cpu.sp)).cpu.past 2 ∧ t.index x = s.readWord s.cpu.sp ∧
      (∀ y, y ≠ x → t.index y = s.index y) ∧ s.sameRegs t ∧ s.sameFlags t ∧
      s.storesTwo t (s.cpu.sp + 1) (highByte (s.index x)) s.cpu.sp (lowByte (s.index x)) := by
  rw [exec_exMemSpIndex]
  obtain ⟨t, hnext, hafter, hstores, hcharged, hquiet⟩ := exchangeStack_spec s
    ((exchangeStack (s.advance 2) (s.index x)).setIndex x (s.readWord s.cpu.sp)) (s.index x) 2 23 (by cases x <;> rfl)
  have hcpu : t.cpu = (s.setIndex x (s.readWord s.cpu.sp)).cpu.past 2 := by
    cases x <;> simp [hafter, State.setIndex]
  have hindex : ∀ y, t.index y = (s.setIndex x (s.readWord s.cpu.sp)).index y :=
    State.index_congr (by rw [hcpu]) (by rw [hcpu])
  obtain ⟨hregs, hflags⟩ := s.sameRegs_of_main t (by rw [hcpu, State.setIndex_main])
  refine ⟨t, hnext, hcharged, hquiet, hcpu, ?_, fun y hy => ?_, hregs, hflags, hstores⟩
  · rw [hindex, State.setIndex_same]
  · rw [hindex, State.setIndex_other _ _ _ _ hy]

/-- Settles O33: the three register exchanges write the CPU's own state alone, and each `EX (SP)` is the rule of
`exchangeStack` with its register read before and written after. -/
theorem exchanges : Obligations.Exchanges :=
  ⟨fun s => ⟨⟨rfl, exDeHl_spec s⟩, ⟨rfl, control_keeps s _ 4 rfl⟩, ⟨rfl, control_keeps s _ 4 rfl⟩⟩,
    fun s => ⟨⟨rfl, exMemSpHl_spec s⟩, fun x => ⟨by simp, exMemSpIndex_spec s x⟩⟩⟩

/-! ### Block transfer and search -/

/-- The four transfers are one operation, with their direction and whether they repeat (R266 to R269). -/
theorem exec_blockMove {i : Instr} {move : Word} {repeats : Bool}
    (h : (i, move, repeats) ∈ ([(.ldi, 1, false), (.ldir, 1, true), (.ldd, -1, false), (.lddr, -1, true)] :
      List (Instr × Word × Bool))) (s : State) : exec i s = blockMove s move repeats := by
  simp only [List.mem_cons, Prod.mk.injEq, List.not_mem_nil, or_false] at h
  rcases h with ⟨rfl, rfl, rfl⟩ | ⟨rfl, rfl, rfl⟩ | ⟨rfl, rfl, rfl⟩ | ⟨rfl, rfl, rfl⟩ <;> rfl

/-- The four searches are one operation, with their direction and whether they repeat (R270 to R273). -/
theorem exec_blockSearch {i : Instr} {move : Word} {repeats : Bool}
    (h : (i, move, repeats) ∈ ([(.cpi, 1, false), (.cpir, 1, true), (.cpd, -1, false), (.cpdr, -1, true)] :
      List (Instr × Word × Bool))) (s : State) : exec i s = blockSearch s move repeats := by
  simp only [List.mem_cons, Prod.mk.injEq, List.not_mem_nil, or_false] at h
  rcases h with ⟨rfl, rfl, rfl⟩ | ⟨rfl, rfl, rfl⟩ | ⟨rfl, rfl, rfl⟩ | ⟨rfl, rfl, rfl⟩ <;> rfl

/-- Z of a search: the difference is 0 just when A is the byte read (R270). -/
theorem blockCompareFlags_z (d old : Flags) (a v : Byte) (bc : Word) :
    (blockCompareFlags d old a v bc).z = decide (a = v) := by
  rw [blockCompareFlags, beq_eq_decide]
  exact decide_eq_decide.mpr sub_eq_zero

/-- PV of an iteration: whether BC is not 0 (R266, R270). -/
theorem bne_zero_eq_decide (bc : Word) : (bc != 0) = decide (bc ≠ 0) := by
  rw [bne, beq_eq_decide, decide_not]

/-- Settles O34: one iteration is `blockMove_spec`, and its flags are those of `blockMoveFlags`. -/
theorem blockTransfer : Obligations.BlockTransfer := by
  refine ⟨rfl, rfl, rfl, rfl, fun s i move repeats hi => ?_⟩
  rw [exec_blockMove hi]
  obtain ⟨t, hnext, hbc, hde, hhl, ha, hflags, hkept⟩ := blockMove_spec s move repeats
  refine ⟨t, hnext, hbc, hde, hhl, ha, ?_⟩
  rw [hflags]
  exact ⟨rfl, rfl, rfl, rfl, rfl, bne_zero_eq_decide _, hkept⟩

end Sys2Proof.Machine

namespace Sys2Proof
open Machine

/-- Settles O35: one iteration is `blockSearch_spec`, and its flags are those of `blockCompareFlags`. In `Machine` the name
is the operation's. -/
theorem blockSearch : Obligations.BlockSearch := by
  refine ⟨rfl, rfl, rfl, rfl, fun s i move repeats hi => ?_⟩
  rw [exec_blockSearch hi]
  obtain ⟨t, hnext, hbc, hde, hhl, ha, hflags, hkept⟩ := blockSearch_spec s move repeats
  refine ⟨t, hnext, hbc, hde, hhl, ha, ?_⟩
  rw [hflags]
  exact ⟨msb8 _, blockCompareFlags_z .., rfl, bne_zero_eq_decide _, rfl, rfl, hkept⟩

end Sys2Proof

/-! SUPPORT. The 8-bit arithmetic and logic: one meaning for every operation and source, one for every place, and the signed
and unsigned reading of the flags of `add8` and `sub8`. -/

namespace Sys2Proof.Machine

/-! ### The operations on A -/

@[simp] theorem AluSource.encode_instr (op : AluOp) (v : AluSource) : encode (v.instr op) = v.bytes (aluCode op) := by
  rcases v with ((r | _ | ⟨x, d⟩) | n) <;> simp [AluSource.instr, AluSource.bytes, Place.mainBytes, Place.code]

/-- Every operation on every source is `aluA` of the source's value (R290). -/
theorem AluSource.exec_instr (op : AluOp) (v : AluSource) (s : State) :
    exec (v.instr op) s = aluA s op (s.sourceValue v) (encode (v.instr op)).length v.cycles := by
  rcases v with ((r | _ | ⟨x, d⟩) | n)
  · cases op <;> cases r <;> rfl
  · cases op <;> rfl
  · cases op <;> cases x <;> rfl
  · cases op <;> rfl

/-- What every operation on every source leaves: A and F alone are written (R290). -/
theorem AluSource.instr_spec (op : AluOp) (v : AluSource) (s : State) :
    ∃ t, exec (v.instr op) s = .next t ∧ s.onlyMain t (encode (v.instr op)).length ∧
      (∀ q, q ≠ .a → t.reg8 q = s.reg8 q) ∧ s.storesNothing t ∧ s.charged t v.cycles ∧ s.quiet t ∧
      t.cpu.main.a = aluResult op s.cpu.main.a (s.sourceValue v) s.cpu.main.f.c ∧
      t.cpu.main.f = aluFlags op s.drawnFlags s.cpu.main.a (s.sourceValue v) s.cpu.main.f.c := by
  obtain ⟨t, hnext, hmain, ⟨ha, hothers⟩, hflags, hstores, hcharged, hquiet⟩ :=
    aluA_spec s op (s.sourceValue v) (encode (v.instr op)).length v.cycles
  exact ⟨t, (v.exec_instr op s).trans hnext, hmain, hothers, hstores, hcharged, hquiet, ha, hflags⟩

theorem logicFlags_isValueFlags (d : Flags) (r : Byte) (h : Bool) : IsValueFlags (logicFlags d r h) r h :=
  ⟨msb8 r, rfl, rfl, parity_isParity r, rfl⟩

/-- Settles O36: A and F are `aluResult` and `aluFlags`, which are `add8` or `sub8` with the carry of the operation. -/
theorem addAndSubtract : Obligations.AddAndSubtract := by
  refine fun op v s => ⟨v.encode_instr op, fun hand hxor hor => ?_⟩
  obtain ⟨t, hnext, hmain, hothers, hstores, hcharged, hquiet, ha, hflags⟩ := v.instr_spec op s
  refine ⟨t, hnext, hmain, hothers, hstores, hcharged, hquiet, ?_⟩
  rw [ha, hflags]
  cases op
  case add => exact add8Flags_isAdd8 ..
  case adc => exact add8Flags_isAdd8 ..
  case sub => exact sub8Flags_isSub8 ..
  case sbc => exact sub8Flags_isSub8 ..
  case cp => exact ⟨rfl, _, sub8Flags_isSub8 ..⟩
  case and => contradiction
  case xor => contradiction
  case or => contradiction

/-- Settles O37: A is the bitwise operation on A and the source, and F is `logicFlags` of it. -/
theorem logicOperations : Obligations.LogicOperations := by
  intro op v s hop
  obtain ⟨t, hnext, hmain, hothers, hstores, hcharged, hquiet, ha, hflags⟩ := v.instr_spec op s
  refine ⟨v.encode_instr op, t, hnext, hmain, hothers, hstores, hcharged, hquiet, ?_⟩
  rw [ha, hflags]
  rcases hop with rfl | rfl | rfl
  · exact ⟨fun k _ => BitVec.getLsbD_and, logicFlags_isValueFlags .., rfl⟩
  · exact ⟨fun k _ => BitVec.getLsbD_xor, logicFlags_isValueFlags .., rfl⟩
  · exact ⟨fun k _ => BitVec.getLsbD_or, logicFlags_isValueFlags .., rfl⟩

/-! ### Signed and unsigned overflow (R38) -/

/-- Bit 7 is the sign. -/
theorem bit7_eq_toInt_neg (v : Byte) : v.getLsbD 7 = decide (v.toInt < 0) := by
  rw [← msb8, BitVec.msb_eq_toInt]

theorem toInt_byte_range (v : Byte) : -128 ≤ v.toInt ∧ v.toInt < 128 := ⟨v.le_toInt, v.toInt_lt⟩

theorem exists_toInt_ofInt (x : Int) : ∃ k, (BitVec.ofInt 8 x).toInt = x + 256 * k :=
  ⟨-x.bdiv 256, by simp [BitVec.toInt_ofInt, Int.bmod_eq_self_sub_mul_bdiv, Int.sub_eq_add_neg]⟩

/-- The byte `r` is the exact result `x` read as signed, unless `pv` says that `x` does not fit. -/
abbrev SignedResult (pv : Bool) (r : Byte) (x : Int) : Prop :=
  (pv = true ↔ x < -128 ∨ 127 < x) ∧ (pv = false → r.toInt = x)

theorem signedResult_ofInt {pv : Bool} {x : Int} (hpv : pv = true ↔ x < -128 ∨ 127 < x) :
    SignedResult pv (BitVec.ofInt 8 x) x := by
  refine ⟨hpv, fun hclear => ?_⟩
  rw [← Bool.not_eq_true, hpv] at hclear
  exact BitVec.toInt_ofInt_eq_self (by decide) (by omega) (by omega)

theorem toNat_decide (p : Prop) [Decidable p] : (decide p).toNat = if p then 1 else 0 := by
  rw [Bool.toNat, Bool.cond_decide]

section Overflow
variable {f : Flags} {res a b : Byte} {c : Bool}

/-- `add8` overflows just when A and the source have one sign and the result, which differs from the exact sum by a multiple
of 256, has the other. -/
theorem IsAdd8.signedResult (h : IsAdd8 f res a b c) : SignedResult f.pv res (a.toInt + b.toInt + c.toNat) := by
  obtain ⟨hres, -, -, -, hpv, -, -⟩ := h
  have hexact : res = BitVec.ofInt 8 (a.toInt + b.toInt + c.toNat) := by
    simp [hres, BitVec.ofInt_add, BitVec.ofNat_add]
  obtain ⟨k, hk⟩ := exists_toInt_ofInt (a.toInt + b.toInt + c.toNat)
  rw [hexact] at hpv ⊢
  apply signedResult_ofInt
  simp only [hpv, bit7_eq_toInt_neg, Bool.and_eq_true, decide_eq_true_eq, decide_eq_decide, ne_eq, hk]
  have ha := toInt_byte_range a
  have hb := toInt_byte_range b
  have hr := toInt_byte_range (BitVec.ofInt 8 (a.toInt + b.toInt + c.toNat))
  have hc := c.toNat_le
  omega

/-- `sub8` overflows just when A and the source differ in sign and the result has not the sign of A. -/
theorem IsSub8.signedResult (h : IsSub8 f res a b c) : SignedResult f.pv res (a.toInt - b.toInt - c.toNat) := by
  obtain ⟨hres, -, -, -, hpv, -, -⟩ := h
  have hexact : res = BitVec.ofInt 8 (a.toInt - b.toInt - c.toNat) := by
    simp [hres, sub_eq_add_neg, BitVec.ofInt_add, BitVec.ofInt_neg]
  obtain ⟨k, hk⟩ := exists_toInt_ofInt (a.toInt - b.toInt - c.toNat)
  rw [hexact] at hpv ⊢
  apply signedResult_ofInt
  simp only [hpv, bit7_eq_toInt_neg, Bool.and_eq_true, decide_eq_true_eq, decide_eq_decide, ne_eq, hk]
  have ha := toInt_byte_range a
  have hb := toInt_byte_range b
  have hr := toInt_byte_range (BitVec.ofInt 8 (a.toInt - b.toInt - c.toNat))
  have hc := c.toNat_le
  omega

/-- C of `add8` is bit 8 of the exact unsigned sum. -/
theorem IsAdd8.toNat_res (h : IsAdd8 f res a b c) :
    (res.toNat : Int) = a.toNat + b.toNat + c.toNat - 256 * f.c.toNat := by
  obtain ⟨hres, -, -, -, -, -, hcarry⟩ := h
  have ha := a.isLt
  have hb := b.isLt
  have hc := c.toNat_le
  rw [hres, hcarry, BitVec.toNat_ofNat, toNat_decide]
  split <;> omega

/-- C of `sub8` is the borrow: it is set just when the exact unsigned difference is below 0. -/
theorem IsSub8.toNat_res (h : IsSub8 f res a b c) :
    (res.toNat : Int) = a.toNat - b.toNat - c.toNat + 256 * f.c.toNat := by
  obtain ⟨hres, -, -, -, -, -, hborrow⟩ := h
  have ha := a.isLt
  have hb := b.isLt
  have hc := c.toNat_le
  rw [hres, hborrow, BitVec.toNat_ofInt, toNat_decide]
  split <;> omega

/-- Z of a comparison: the result is 0 just when A and the source are equal. -/
theorem IsSub8.z_iff (h : IsSub8 f res a b false) : f.z = true ↔ a = b := by
  obtain ⟨hres, -, hz, -⟩ := h
  have hdiff : res = a - b := by
    simp [hres, sub_eq_add_neg, BitVec.ofInt_add, BitVec.ofInt_neg]
  rw [hz, decide_eq_true_iff, hdiff, sub_eq_zero]

end Overflow

/-- Settles O38: A and F are those of `add8` or `sub8` with the carry of the operation, read as signed and as unsigned. -/
theorem overflowIsSigned : Obligations.OverflowIsSigned := by
  refine fun v s op c => ⟨fun hadd => ?_, fun hsub => ?_, ?_⟩
  · obtain ⟨t, hnext, -, -, -, -, -, ha, hflags⟩ := v.instr_spec op s
    refine ⟨t, hnext, ?_⟩
    rw [ha, hflags, ← and_assoc]
    rcases hadd with ⟨rfl, rfl⟩ | ⟨rfl, rfl⟩
    · have h := add8Flags_isAdd8 s.drawnFlags s.cpu.main.a (s.sourceValue v) false
      exact ⟨h.signedResult, h.toNat_res⟩
    · have h := add8Flags_isAdd8 s.drawnFlags s.cpu.main.a (s.sourceValue v) s.cpu.main.f.c
      exact ⟨h.signedResult, h.toNat_res⟩
  · obtain ⟨t, hnext, -, -, -, -, -, ha, hflags⟩ := v.instr_spec op s
    refine ⟨t, hnext, ?_⟩
    rw [ha, hflags, ← and_assoc]
    rcases hsub with ⟨rfl, rfl⟩ | ⟨rfl, rfl⟩
    · have h := sub8Flags_isSub8 s.drawnFlags s.cpu.main.a (s.sourceValue v) false
      exact ⟨h.signedResult, h.toNat_res⟩
    · have h := sub8Flags_isSub8 s.drawnFlags s.cpu.main.a (s.sourceValue v) s.cpu.main.f.c
      exact ⟨h.signedResult, h.toNat_res⟩
  · obtain ⟨t, hnext, -, -, -, -, -, -, hflags⟩ := v.instr_spec .cp s
    have h := sub8Flags_isSub8 s.drawnFlags s.cpu.main.a (s.sourceValue v) false
    refine ⟨t, hnext, ?_⟩
    rw [hflags, aluFlags]
    exact ⟨by simpa using h.signedResult.1, decide_eq_true_iff, h.z_iff⟩

/-! ### The places of `INC` and `DEC` -/

/-- The state with the byte at a place written. -/
def State.put (s : State) (p : Place) (v : Byte) : State :=
  match p with
  | .reg r => s.setReg8 r v
  | .memHl => s.writeByte s.hl v
  | .indexed x d => s.writeByte (s.index x + d.signExtend 16) v

/-- What a write of the flags with the byte at a place leaves. -/
theorem flaggedPut_spec (s : State) (p : Place) (v : Byte) (f : Flags → Flags) (len cost : Nat) :
    ∃ t, (((s.advance len).put p v).writeFlags f).finish cost = .next t ∧ s.onlyMain t len ∧ s.putsAt t p v ∧
      t.cpu.main.f = f s.drawnFlags ∧ s.charged t cost ∧ s.quiet t := by
  cases p with
  | reg r =>
    obtain ⟨t, hnext, hmain, hreg, hflags, hstores, hkept⟩ := flagged_spec s r v f len cost
    exact ⟨t, hnext, hmain, ⟨hreg, hstores⟩, hflags, hkept⟩
  | memHl =>
    obtain ⟨t, hnext, hmain, hregs, hflags, hstores, hkept⟩ := flaggedStore_spec s s.hl v f len cost
    exact ⟨t, hnext, hmain, ⟨hregs, hstores⟩, hflags, hkept⟩
  | indexed x d =>
    obtain ⟨t, hnext, hmain, hregs, hflags, hstores, hkept⟩ :=
      flaggedStore_spec s (s.index x + d.signExtend 16) v f len cost
    refine ⟨t, ?_, hmain, ⟨hregs, hstores⟩, hflags, hkept⟩
    cases x <;> exact hnext

@[simp] theorem Place.encode_stepForms (p : Place) :
    encode p.inc = p.mainBytes (opByte 0 p.code 4) ∧ encode p.dec = p.mainBytes (opByte 0 p.code 5) := by
  rcases p with r | _ | ⟨x, d⟩
  · cases r <;> exact ⟨rfl, rfl⟩
  · exact ⟨rfl, rfl⟩
  · cases x <;> exact ⟨rfl, rfl⟩

/-- Every `INC` and `DEC` is one read and one write at its place (R300, R301). -/
theorem Place.exec_stepForms (p : Place) (s : State) :
    exec p.inc s = (((s.advance (encode p.inc).length).put p (s.valueAt p + 1)).writeFlags
      fun d => inc8Flags d s.flags (s.valueAt p)).finish p.stepCycles ∧
    exec p.dec s = (((s.advance (encode p.dec).length).put p (s.valueAt p - 1)).writeFlags
      fun d => dec8Flags d s.flags (s.valueAt p)).finish p.stepCycles := by
  rcases p with r | _ | ⟨x, d⟩
  · cases r <;> exact ⟨rfl, rfl⟩
  · exact ⟨rfl, rfl⟩
  · cases x <;> exact ⟨rfl, rfl⟩

theorem inc8Flags_z (d old : Flags) (v : Byte) : (inc8Flags d old v).z = decide (v = 0xFF) := by
  rw [inc8Flags, beq_eq_decide]
  exact decide_eq_decide.mpr (by bv_omega)

theorem dec8Flags_z (d old : Flags) (v : Byte) : (dec8Flags d old v).z = decide (v = 0x01) := by
  rw [dec8Flags, beq_eq_decide]
  exact decide_eq_decide.mpr sub_eq_zero

/-- Settles O39: each form is one write at its place (`flaggedPut_spec`), with the flags of `inc8Flags` or `dec8Flags`. -/
theorem incrementByte : Obligations.IncrementByte := by
  intro p s
  obtain ⟨hencInc, hencDec⟩ := p.encode_stepForms
  obtain ⟨hinc, hdec⟩ := p.exec_stepForms s
  refine ⟨⟨hencInc, ?_⟩, ⟨hencDec, ?_⟩⟩
  · obtain ⟨t, hnext, hmain, hputs, hflags, hkept⟩ := flaggedPut_spec s p (s.valueAt p + 1) _ _ _
    refine ⟨t, hinc.trans hnext, hmain, hputs, ?_⟩
    rw [hflags]
    exact ⟨msb8 _, inc8Flags_z .., rfl, rfl, rfl, rfl, hkept⟩
  · obtain ⟨t, hnext, hmain, hputs, hflags, hkept⟩ := flaggedPut_spec s p (s.valueAt p - 1) _ _ _
    refine ⟨t, hdec.trans hnext, hmain, hputs, ?_⟩
    rw [hflags]
    exact ⟨msb8 _, dec8Flags_z .., rfl, rfl, rfl, rfl, hkept⟩

end Sys2Proof.Machine

/-! SUPPORT. The accumulator adjustments and CPU control: the correction of `DAA` as a number, `DAA` after an `ADD` of BCD
bytes, the overflow of `NEG`, and what `PATCH` leaves against the host's actions on the state before it. -/

namespace Sys2Proof.Machine

/-! ### The accumulator adjustments -/

/-- The two halves of the correction share no bit, so it is their sum (R320). -/
theorem daaCorrection_toNat (f : Flags) (a : Byte) : (daaCorrection f a).toNat =
    (if f.h = true ∨ a.toNat % 16 > 9 then 0x06 else 0) + (if f.c = true ∨ a.toNat > 0x99 then 0x60 else 0) := by
  simp only [daaCorrection, Bool.or_eq_true, decide_eq_true_eq]
  by_cases hlow : f.h = true ∨ a.toNat % 16 > 9 <;> by_cases hhigh : f.c = true ∨ a.toNat > 0x99 <;>
    simp only [lowNibble, hlow, hhigh, if_true, if_false] <;> rfl

theorem daaResult_eq_ofInt (f : Flags) (a : Byte) : daaResult f a =
    BitVec.ofInt 8 (if f.n = true then (a.toNat : Int) - (daaCorrection f a).toNat
      else a.toNat + (daaCorrection f a).toNat) := by
  unfold daaResult
  split
  · simp [sub_eq_add_neg, BitVec.ofInt_add, BitVec.ofInt_neg]
  · simp [BitVec.ofInt_add]

theorem daaFlags_h (d old : Flags) (a : Byte) : (daaFlags d old a).h =
    if old.n = true then decide (old.h = true ∧ a.toNat % 16 < 6) else decide (a.toNat % 16 > 9) := by
  rw [Bool.decide_and, Bool.decide_eq_true]
  rfl

theorem daaFlags_c (d old : Flags) (a : Byte) : (daaFlags d old a).c = decide (old.c = true ∨ a.toNat > 0x99) := by
  simp [daaFlags]

/-- `DAA` writes A and F alone (R320). -/
theorem daa_spec (s : State) :
    ∃ t, exec .daa s = .next t ∧ s.onlyMain t 1 ∧ s.onlyReg t .a (daaResult s.cpu.main.f s.cpu.main.a) ∧
      t.cpu.main.f = daaFlags s.drawnFlags s.cpu.main.f s.cpu.main.a ∧ s.storesNothing t ∧ s.charged t 4 ∧ s.quiet t :=
  flagged_spec s .a _ _ 1 4

theorem cpl_spec (s : State) :
    ∃ t, exec .cpl s = .next t ∧ s.onlyMain t 1 ∧ s.onlyReg t .a (~~~s.cpu.main.a) ∧
      t.cpu.main.f = cplFlags s.drawnFlags s.cpu.main.f ∧ s.storesNothing t ∧ s.charged t 4 ∧ s.quiet t := by
  rw [← BitVec.xor_allOnes]
  exact flagged_spec s .a _ _ 1 4

theorem neg_spec (s : State) :
    ∃ t, exec .neg s = .next t ∧ s.onlyMain t 2 ∧ s.onlyReg t .a (sub8 0 s.cpu.main.a false) ∧
      t.cpu.main.f = sub8Flags s.drawnFlags 0 s.cpu.main.a false ∧ s.storesNothing t ∧ s.charged t 8 ∧ s.quiet t :=
  flagged_spec s .a _ _ 2 8

theorem ccf_spec (s : State) :
    ∃ t, exec .ccf s = .next t ∧ s.onlyMain t 1 ∧ s.sameRegs t ∧ t.cpu.main.f = ccfFlags s.drawnFlags s.cpu.main.f ∧
      s.storesNothing t ∧ s.charged t 4 ∧ s.quiet t := flagsOnly_spec s _ 1 4

theorem scf_spec (s : State) :
    ∃ t, exec .scf s = .next t ∧ s.onlyMain t 1 ∧ s.sameRegs t ∧ t.cpu.main.f = scfFlags s.drawnFlags s.cpu.main.f ∧
      s.storesNothing t ∧ s.charged t 4 ∧ s.quiet t := flagsOnly_spec s _ 1 4

/-- The negation overflows for -128 alone, which has no positive counterpart (R322). -/
theorem IsSub8.negate_pv {f : Flags} {res v : Byte} (h : IsSub8 f res 0 v false) : f.pv = decide (v = 0x80) := by
  obtain ⟨hoverflow, -⟩ := h.signedResult
  have hmin : v = 0x80 ↔ v.toInt = -128 := by rw [← BitVec.toInt_inj]; rfl
  have hrange := toInt_byte_range v
  rw [Bool.eq_iff_iff, decide_eq_true_iff, hoverflow, hmin]
  simp only [BitVec.ofNat_eq_ofNat, BitVec.toInt_zero, Bool.toNat_false]
  omega

/-- The negation borrows unless the byte is 0 (R322). -/
theorem IsSub8.negate_c {f : Flags} {res v : Byte} (h : IsSub8 f res 0 v false) : f.c = decide (v ≠ 0) := by
  obtain ⟨-, -, -, -, -, -, hborrow⟩ := h
  rw [hborrow]
  exact decide_eq_decide.mpr (by simp [BitVec.toNat_eq, Nat.pos_iff_ne_zero])

/-- Settles O40: each adjustment writes A and F, or F alone, with the result and the flags of its rule. -/
theorem accumulatorAdjustments : Obligations.AccumulatorAdjustments := by
  refine ⟨⟨rfl, fun s => ?_⟩, fun s => ⟨⟨rfl, ?_⟩, ⟨rfl, ?_⟩, ⟨rfl, ?_⟩, ⟨rfl, ?_⟩⟩⟩
  · obtain ⟨t, hnext, hmain, ⟨ha, hothers⟩, hflags, hstores, hcharged, hquiet⟩ := daa_spec s
    have hres := daaResult_eq_ofInt s.cpu.main.f s.cpu.main.a
    rw [daaCorrection_toNat] at hres
    push_cast at hres
    refine ⟨t, hnext, hmain, hstores, hcharged, hquiet, ⟨ha.trans hres, hothers⟩, ?_⟩
    rw [show t.cpu.main.a = _ from ha, hflags]
    exact ⟨msb8 _, rfl, daaFlags_h .., parity_isParity _, rfl, daaFlags_c ..⟩
  · obtain ⟨t, hnext, hmain, hreg, hflags, hkept⟩ := cpl_spec s
    refine ⟨t, hnext, hmain, hreg, ?_⟩
    rw [hflags]
    exact ⟨rfl, rfl, rfl, ⟨rfl, rfl, rfl⟩, hkept⟩
  · obtain ⟨t, hnext, hmain, ⟨ha, hothers⟩, hflags, hkept⟩ := neg_spec s
    have hsub := sub8Flags_isSub8 s.drawnFlags 0 s.cpu.main.a false
    refine ⟨t, hnext, hmain, hothers, ?_⟩
    rw [show t.cpu.main.a = _ from ha, hflags]
    exact ⟨hsub, hsub.negate_pv, hsub.negate_c, hkept⟩
  · obtain ⟨t, hnext, hmain, hregs, hflags, hkept⟩ := ccf_spec s
    refine ⟨t, hnext, hmain, hregs, ?_⟩
    rw [hflags]
    exact ⟨rfl, rfl, rfl, ⟨rfl, rfl, rfl⟩, hkept⟩
  · obtain ⟨t, hnext, hmain, hregs, hflags, hkept⟩ := scf_spec s
    refine ⟨t, hnext, hmain, hregs, ?_⟩
    rw [hflags]
    exact ⟨rfl, rfl, rfl, ⟨rfl, rfl, rfl⟩, hkept⟩

/-! ### Decimal addition -/

/-- After an addition of two BCD bytes, the carries out of the digits and the two comparisons of `DAA` say exactly which
digits passed 9, so the correction makes each of them decimal. -/
theorem IsAdd8.daa_bcd {f : Flags} {res a b : Byte} {x y : Nat} (h : IsAdd8 f res a b false) (hx : x < 100) (hy : y < 100)
    (ha : a = BitVec.ofNat 8 (16 * (x / 10) + x % 10)) (hb : b = BitVec.ofNat 8 (16 * (y / 10) + y % 10)) :
    daaResult f res = BitVec.ofNat 8 (16 * ((x + y) % 100 / 10) + (x + y) % 10) ∧
      (f.c = true ∨ res.toNat > 0x99 ↔ 100 ≤ x + y) := by
  obtain ⟨hres, -, -, hhalf, -, hn, hcarry⟩ := h
  have ha : a.toNat = 16 * (x / 10) + x % 10 := by rw [ha, BitVec.toNat_ofNat]; omega
  have hb : b.toNat = 16 * (y / 10) + y % 10 := by rw [hb, BitVec.toNat_ofNat]; omega
  have hres : res.toNat = (a.toNat + b.toNat) % 256 := by rw [hres, BitVec.toNat_ofNat]; rfl
  have hlow : f.h = true ∨ res.toNat % 16 > 9 ↔ 10 ≤ x % 10 + y % 10 := by
    simp only [hhalf, decide_eq_true_eq, Bool.toNat_false]
    omega
  have hhigh : f.c = true ∨ res.toNat > 0x99 ↔ 100 ≤ x + y := by
    simp only [hcarry, decide_eq_true_eq, Bool.toNat_false]
    omega
  refine ⟨?_, hhigh⟩
  apply BitVec.eq_of_toNat_eq
  simp only [daaResult, hn, Bool.false_eq_true, if_false, BitVec.toNat_add, BitVec.toNat_ofNat, daaCorrection_toNat, hlow, hhigh]
  split <;> split <;> omega

/-- Settles O41: A and F after `ADD A,B` are those of `add8`, and `DAA` corrects them (`IsAdd8.daa_bcd`). -/
theorem decimalAddition : Obligations.DecimalAddition := by
  intro s t u x y hx hy ha hb hadd hdaa
  obtain ⟨t', hnext, -, ⟨hsum, -⟩, hflags, -⟩ := aluA_spec s .add s.cpu.main.b 1 4
  obtain rfl : t' = t := Host.Outcome.next.inj (hnext.symm.trans hadd)
  obtain ⟨u', hnext, -, ⟨hres, -⟩, hflags', -⟩ := daa_spec t'
  obtain rfl : u' = u := Host.Outcome.next.inj (hnext.symm.trans hdaa)
  have hadd8 : IsAdd8 t'.cpu.main.f t'.cpu.main.a s.cpu.main.a s.cpu.main.b false := by
    rw [hflags, show t'.cpu.main.a = _ from hsum]
    exact add8Flags_isAdd8 ..
  obtain ⟨hbcd, hcarry⟩ := hadd8.daa_bcd hx hy ha hb
  refine ⟨Eq.trans hres hbcd, ?_⟩
  rw [hflags', daaFlags_c]
  exact decide_eq_decide.mpr hcarry

/-! ### CPU control -/

/-- Settles O42: each instruction but `EI` writes the CPU's own state alone and ends with `eiDelay` clear (`control_spec`). -/
theorem cpuControlInstructions : Obligations.CpuControlInstructions := fun s =>
  ⟨⟨rfl, control_spec s _ 4 rfl⟩, ⟨rfl, control_spec s _ 4 rfl⟩, ⟨rfl, control_spec s _ 4 rfl⟩,
    ⟨rfl, enableInterrupts_spec s⟩, ⟨rfl, control_spec s _ 8 rfl⟩, ⟨rfl, control_spec s _ 8 rfl⟩,
    ⟨rfl, control_spec s _ 8 rfl⟩⟩

/-! ### The host trap -/

/-- The actions of `PATCH` do the same whether or not the call was recorded and its requests latched first (R332, R540). -/
theorem patch_acts (s : State) (ev : HostEvent) (l : List HostAction) :
    (l.foldl State.act (s.afterCall ev)).sameMemory (l.foldl State.act s) ∧
      (l.foldl State.act (s.afterCall ev)).cpu = (l.foldl State.act s).cpu :=
  State.acts_congr l _ _ ⟨rfl, rfl, rfl, rfl, rfl, rfl, rfl⟩ rfl

/-- Settles O43: `hostPatch_spec` gives the charge and the call; the CPU and the memory are those of the actions on the
machine with PC past the trap (`patch_acts`), which is the state before it when there is no action. -/
theorem patchTrap : Obligations.PatchTrap := by
  refine ⟨rfl, fun s => ?_⟩
  let ev : HostEvent := .patch (s.advance 2).cpu
  let actions := (s.hostReply ev).actions
  obtain ⟨t, hnext, -, -, -, -, hcharged, hcalled⟩ := hostPatch_spec s
  obtain ⟨hmem, hcpu⟩ := patch_acts (s.advance 2) ev actions
  have ht : (actions.foldl State.act ((s.advance 2).afterCall ev)).endStep s.cfg.patchCycles = t :=
    Host.Outcome.next.inj hnext
  have hcpu : t.cpu = { (actions.foldl State.act (s.advance 2)).cpu with eiDelay := false } := by
    rw [← ht, State.endStep_cpu, hcpu]
  have hmem : t.sameMemory (actions.foldl State.act (s.advance 2)) := ht ▸ hmem
  refine ⟨t, hnext, hcpu, hmem, hcharged, hcalled, fun (hnone : actions = []) => ?_⟩
  rw [hnone] at hcpu hmem
  exact ⟨hcpu, State.storesNothing_of s t hmem⟩

end Sys2Proof.Machine

/-! SUPPORT. The 16-bit arithmetic: the shared operation of each operand form, overflow by bit 15, and the flags of each sum
and difference against the rules' formulas. -/

namespace Sys2Proof.Machine

/-! ### The shared operation of each operand form -/

theorem exec_addHlPair (s : State) (p : Pair) : exec (.addHlPair p) s = addHl s (s.pair p) 1 11 := by
  cases p <;> rfl

theorem exec_adcHlPair (s : State) (p : Pair) : exec (.adcHlPair p) s = adcHl s (s.pair p) 2 15 := by
  cases p <;> rfl

theorem exec_sbcHlPair (s : State) (p : Pair) : exec (.sbcHlPair p) s = sbcHl s (s.pair p) 2 15 := by
  cases p <;> rfl

theorem exec_addIndexPair (s : State) (x : IndexReg) (p : Pair) :
    exec (.addIndexPair x p) s = addIndex s x (s.pairFor x p) 2 15 := by
  cases x <;> cases p <;> rfl

theorem exec_incPair (s : State) (p : Pair) : exec (.incPair p) s = countPair s p (s.pair p + 1) 1 6 := by
  cases p <;> rfl

theorem exec_decPair (s : State) (p : Pair) : exec (.decPair p) s = countPair s p (s.pair p - 1) 1 6 := by
  cases p <;> rfl

theorem exec_incIndex (s : State) (x : IndexReg) : exec (.incIndex x) s = countIndex s x (s.index x + 1) 2 10 := by
  cases x <;> rfl

theorem exec_decIndex (s : State) (x : IndexReg) : exec (.decIndex x) s = countIndex s x (s.index x - 1) 2 10 := by
  cases x <;> rfl

/-- Under a prefix the pair coded 2 is the index register itself (R353, R354). -/
theorem State.pairFor_eq_ite (s : State) (x : IndexReg) (p : Pair) :
    s.pairFor x p = if p = .hl then s.index x else s.pair p := by
  cases p <;> rfl

/-! ### What each operation leaves -/

theorem addHl_spec (s : State) (b : Word) (len cost : Nat) :
    ∃ t, addHl s b len cost = .next t ∧ s.onlyMain t len ∧ t.hl = s.hl + b ∧ t.bc = s.bc ∧ t.de = s.de ∧
      t.cpu.main.a = s.cpu.main.a ∧ t.cpu.main.f = add16Flags s.drawnFlags s.cpu.main.f s.hl b ∧ s.storesNothing t ∧
      s.charged t cost ∧ s.quiet t := by
  rw [← add16_false]
  exact flaggedHl_spec s _ _ len cost

theorem adcHl_spec (s : State) (b : Word) (len cost : Nat) :
    ∃ t, adcHl s b len cost = .next t ∧ s.onlyMain t len ∧ t.hl = add16 s.hl b s.cpu.main.f.c ∧ t.bc = s.bc ∧
      t.de = s.de ∧ t.cpu.main.a = s.cpu.main.a ∧ t.cpu.main.f = adc16Flags s.drawnFlags s.hl b s.cpu.main.f.c ∧
      s.storesNothing t ∧ s.charged t cost ∧ s.quiet t :=
  flaggedHl_spec s _ _ len cost

theorem sbcHl_spec (s : State) (b : Word) (len cost : Nat) :
    ∃ t, sbcHl s b len cost = .next t ∧ s.onlyMain t len ∧ t.hl = sub16 s.hl b s.cpu.main.f.c ∧ t.bc = s.bc ∧
      t.de = s.de ∧ t.cpu.main.a = s.cpu.main.a ∧ t.cpu.main.f = sbc16Flags s.drawnFlags s.hl b s.cpu.main.f.c ∧
      s.storesNothing t ∧ s.charged t cost ∧ s.quiet t :=
  flaggedHl_spec s _ _ len cost

/-- Counting a pair is a load of the counted value, so it leaves A and F (R355, R358). -/
theorem countPair_keepsAf (s : State) (p : Pair) (v : Word) (len cost : Nat) :
    ∃ t, countPair s p v len cost = .next t ∧ t.cpu = (s.setPair p v).cpu.past len ∧ t.pair p = v ∧
      (∀ q, q ≠ p → t.pair q = s.pair q) ∧ t.cpu.main.a = s.cpu.main.a ∧ s.sameFlags t ∧ s.storesNothing t ∧
      s.charged t cost ∧ s.quiet t := loadPair_keepsAf s p v len cost

/-- Counting an index register is a load of the counted value, so it leaves the main bank (R356, R357, R359, R360). -/
theorem countIndex_keepsMain (s : State) (x : IndexReg) (v : Word) (len cost : Nat) :
    ∃ t, countIndex s x v len cost = .next t ∧ t.cpu = (s.setIndex x v).cpu.past len ∧ t.index x = v ∧
      (∀ y, y ≠ x → t.index y = s.index y) ∧ s.sameRegs t ∧ s.sameFlags t ∧ s.storesNothing t ∧ s.charged t cost ∧
      s.quiet t := loadIndex_keepsMain s x v len cost

/-! ### Overflow of 16 bits (R351, R352) -/

theorem adc16Flags_pv (d : Flags) (a b : Word) (c : Bool) : (adc16Flags d a b c).pv =
    (decide (a.getLsbD 15 = b.getLsbD 15) && decide ((add16 a b c).getLsbD 15 ≠ a.getLsbD 15)) := by
  simp only [adc16Flags, msb16, bne, beq_eq_decide, ne_eq, decide_not]

theorem sbc16Flags_pv (d : Flags) (a b : Word) (c : Bool) : (sbc16Flags d a b c).pv =
    (decide (a.getLsbD 15 ≠ b.getLsbD 15) && decide ((sub16 a b c).getLsbD 15 ≠ a.getLsbD 15)) := by
  simp only [sbc16Flags, msb16, bne, beq_eq_decide, ne_eq, decide_not]

/-! ### The statements -/

/-- Settles O44: the HL forms are `addHl`, the index forms `addIndex` of `pairFor`, both with the flags of `add16Flags`. -/
theorem addWords : Obligations.AddWords := by
  refine fun s p => ⟨⟨by simp, ?_⟩, fun x => ⟨by simp, ?_⟩⟩
  · obtain ⟨t, hnext, hmain, hhl, hbc, hde, ha, hflags, hkept⟩ := addHl_spec s (s.pair p) 1 11
    refine ⟨t, (exec_addHlPair s p).trans hnext, hmain, hhl, hbc, hde, ha, ?_⟩
    rw [hflags]
    exact ⟨⟨rfl, rfl, rfl⟩, rfl, rfl, rfl, hkept⟩
  · rw [exec_addIndexPair, ← State.pairFor_eq_ite]
    obtain ⟨t, hnext, hcpu, hflags, hkept⟩ := addIndex_spec s x (s.pairFor x p) 2 15
    refine ⟨t, hnext, hcpu, ?_⟩
    rw [hflags]
    exact ⟨⟨rfl, rfl, rfl⟩, rfl, rfl, rfl, hkept⟩

/-- Settles O45: HL and F are `add16` and `adc16Flags`, or `sub16` and `sbc16Flags`, with the carry before. -/
theorem carryWords : Obligations.CarryWords := by
  refine fun s p => ⟨⟨by simp, ?_⟩, ⟨by simp, ?_⟩⟩
  · obtain ⟨t, hnext, hmain, hhl, hbc, hde, ha, hflags, hkept⟩ := adcHl_spec s (s.pair p) 2 15
    refine ⟨t, (exec_adcHlPair s p).trans hnext, hmain, hhl, hbc, hde, ha, ?_⟩
    rw [hhl, hflags]
    exact ⟨msb16 _, rfl, rfl, adc16Flags_pv .., rfl, rfl, hkept⟩
  · obtain ⟨t, hnext, hmain, hhl, hbc, hde, ha, hflags, hkept⟩ := sbcHl_spec s (s.pair p) 2 15
    refine ⟨t, (exec_sbcHlPair s p).trans hnext, hmain, hhl.trans (sub16_eq ..), hbc, hde, ha, ?_⟩
    rw [hhl, hflags]
    exact ⟨msb16 _, rfl, rfl, sbc16Flags_pv .., rfl, rfl, hkept⟩

/-- Settles O46: each form is `countPair` or `countIndex` of the value plus or minus one, which write no flag. -/
theorem countWords : Obligations.CountWords := by
  refine fun s => ⟨fun p => ⟨by simp, ?_⟩, fun p => ⟨by simp, ?_⟩, fun x => ⟨by simp, ?_⟩, fun x => ⟨by simp, ?_⟩⟩
  · rw [exec_incPair]
    exact countPair_keepsAf s p (s.pair p + 1) 1 6
  · rw [exec_decPair]
    exact countPair_keepsAf s p (s.pair p - 1) 1 6
  · rw [exec_incIndex]
    exact countIndex_keepsMain s x (s.index x + 1) 2 10
  · rw [exec_decIndex]
    exact countIndex_keepsMain s x (s.index x - 1) 2 10

end Sys2Proof.Machine

/-! SUPPORT. The rotates and shifts: the flags of the accumulator rotates and of the CB page, one meaning for every place,
and the digits that `RLD` and `RRD` move, as numbers. -/

namespace Sys2Proof.Machine

/-! ### The accumulator -/

/-- Settles O47: each form is `rotateAcc` of its rotate, whose result and carry are the rules' bit by bit. -/
theorem rotateAccumulator : Obligations.RotateAccumulator := by
  intro s i op hi
  have hform : encode i = [opByte 0 (rotCode op) 7] ∧ exec i s = rotateAcc s op 1 4 := by
    simp only [List.mem_cons, Prod.mk.injEq, List.not_mem_nil, or_false] at hi
    rcases hi with ⟨rfl, rfl⟩ | ⟨rfl, rfl⟩ | ⟨rfl, rfl⟩ | ⟨rfl, rfl⟩ <;> exact ⟨rfl, rfl⟩
  obtain ⟨henc, hexec⟩ := hform
  obtain ⟨t, hnext, hmain, ⟨ha, hothers⟩, hflags, hkept⟩ := rotateAcc_spec s op 1 4
  refine ⟨henc, t, hexec.trans hnext, hmain, hothers, ?_⟩
  rw [show t.cpu.main.a = _ from ha, hflags]
  exact ⟨rotResult_bit op _ _, rotCarry_eq op _, rfl, rfl, ⟨rfl, rfl, rfl⟩, hkept⟩

/-! ### The places of the CB page -/

@[simp] theorem Place.encode_rot (op : RotOp) (p : Place) :
    encode (p.rot op) = p.cbBytes (opByte 0 (rotCode op) p.code) := by
  rcases p with r | _ | ⟨x, d⟩ <;> simp [Place.rot, Place.cbBytes, Place.code]

/-- Every rotate and shift is one read and one write at its place (R374). -/
theorem Place.exec_rot (op : RotOp) (p : Place) (s : State) :
    exec (p.rot op) s = (((s.advance (encode (p.rot op)).length).put p (rotResult op (s.valueAt p) s.carry)).writeFlags
      fun d => rotFlags d (rotResult op (s.valueAt p) s.carry) (rotCarry op (s.valueAt p))).finish p.cbCycles := by
  rcases p with r | _ | ⟨x, d⟩
  · cases op <;> cases r <;> rfl
  · cases op <;> rfl
  · cases op <;> cases x <;> rfl

theorem rotFlags_isValueFlags (d : Flags) (r : Byte) (c : Bool) : IsValueFlags (rotFlags d r c) r false :=
  ⟨msb8 r, rfl, rfl, parity_isParity r, rfl⟩

/-- Settles O48: each form is one write at its place (`flaggedPut_spec`) of `rotResult`, with the flags of `rotFlags`. -/
theorem rotateAndShift : Obligations.RotateAndShift := by
  intro op p s
  obtain ⟨t, hnext, hmain, hputs, hflags, hkept⟩ :=
    flaggedPut_spec s p (rotResult op (s.valueAt p) s.carry) _ (encode (p.rot op)).length p.cbCycles
  refine ⟨p.encode_rot op, t, _, (p.exec_rot op s).trans hnext, hmain, hputs, rotResult_bit op _ _, ?_⟩
  rw [hflags]
  exact ⟨rotFlags_isValueFlags .., rotCarry_eq op _, hkept⟩

/-! ### The digit rotates -/

/-- Two digits side by side are the byte of their number. -/
theorem digits_append (high low : BitVec 4) : high ++ low = BitVec.ofNat 8 (16 * high.toNat + low.toNat) := by
  have hhigh := high.isLt
  have hlow := low.isLt
  apply BitVec.eq_of_toNat_eq
  rw [BitVec.toNat_append, ← Nat.shiftLeft_add_eq_or_of_lt hlow, Nat.shiftLeft_eq, BitVec.toNat_ofNat]
  omega

theorem lowDigit_toNat (v : Byte) : (v.extractLsb' 0 4).toNat = v.toNat % 16 := by
  rw [BitVec.extractLsb'_toNat]
  rfl

theorem highDigit_toNat (v : Byte) : (v.extractLsb' 4 4).toNat = v.toNat / 16 := by
  have hv := v.isLt
  rw [BitVec.extractLsb'_toNat, Nat.shiftRight_eq_div_pow]
  omega

theorem rldDigits_eq (a m : Byte) : rldDigits a m =
    (BitVec.ofNat 8 (16 * (a.toNat / 16) + m.toNat / 16), BitVec.ofNat 8 (16 * (m.toNat % 16) + a.toNat % 16)) := by
  simp only [rldDigits, digits_append, lowDigit_toNat, highDigit_toNat]

theorem rrdDigits_eq (a m : Byte) : rrdDigits a m =
    (BitVec.ofNat 8 (16 * (a.toNat / 16) + m.toNat % 16), BitVec.ofNat 8 (16 * (a.toNat % 16) + m.toNat / 16)) := by
  simp only [rrdDigits, digits_append, lowDigit_toNat, highDigit_toNat]

theorem valueFlags_isValueFlags (d old : Flags) (r : Byte) : IsValueFlags (valueFlags d old r) r false :=
  ⟨msb8 r, rfl, rfl, parity_isParity r, rfl⟩

/-- A digit rotate writes A, F and the byte at HL, and C stays (R382, R383). -/
theorem digitRotate_spec (s : State) (digits : Byte → Byte → Byte × Byte) {a m : Byte}
    (h : digits s.cpu.main.a (s.readByte s.hl) = (a, m)) :
    ∃ t, digitRotate s digits = .next t ∧ s.onlyMain t 2 ∧ s.onlyReg t .a a ∧ s.storesByte t s.hl m ∧
      IsValueFlags t.cpu.main.f t.cpu.main.a false ∧ t.cpu.main.f.c = s.cpu.main.f.c ∧ s.charged t 18 ∧ s.quiet t := by
  unfold digitRotate
  rw [h]
  refine ⟨_, rfl, by simp [State.onlyMain],
    State.onlyReg_of_flags _ _ _ _ (valueFlags s.drawnFlags s.flags a) (by simp [State.setReg8, State.drawnFlags]),
    State.storesByte_of _ _ _ _ ?_, valueFlags_isValueFlags .., rfl, ?_, ?_⟩
  · exact State.writeByte_sameMemory (s.advance 2) s ⟨rfl, rfl, rfl, rfl, rfl, rfl, rfl⟩ s.hl m
  · exact ⟨by simp, by simp, by simp, by simp⟩
  · exact ⟨by simp, by simp, by simp, by simp⟩

/-- Settles O49: both are `digitRotate`, with the digits of `rldDigits` and of `rrdDigits`. -/
theorem digitRotates : Obligations.DigitRotates := fun s =>
  ⟨⟨rfl, digitRotate_spec s rldDigits (rldDigits_eq ..)⟩, ⟨rfl, digitRotate_spec s rrdDigits (rrdDigits_eq ..)⟩⟩

end Sys2Proof.Machine

/-! SUPPORT. `BIT`, `SET` and `RES`: one meaning for every place. -/

namespace Sys2Proof.Machine

theorem Place.encode_bitForms (b : Fin 8) (p : Place) :
    encode (p.bit b) = p.cbBytes (opByte 1 b.val p.code) ∧ encode (p.set b) = p.cbBytes (opByte 3 b.val p.code) ∧
      encode (p.res b) = p.cbBytes (opByte 2 b.val p.code) := by
  rcases p with r | _ | ⟨x, d⟩ <;> simp [Place.bit, Place.set, Place.res, Place.cbBytes, Place.code]

/-- `BIT` tests the byte at its place (R400). -/
theorem Place.exec_bit (b : Fin 8) (p : Place) (s : State) :
    exec (p.bit b) s = testBit s (s.valueAt p) b.val (encode (p.bit b)).length p.bitCycles := by
  rcases p with r | _ | ⟨x, d⟩
  · fin_cases b <;> cases r <;> rfl
  · fin_cases b <;> rfl
  · fin_cases b <;> cases x <;> rfl

/-- `SET` and `RES` are one read and one write at their place (R374, R401, R402). -/
theorem Place.exec_setRes (b : Fin 8) (p : Place) (s : State) :
    exec (p.set b) s =
      ((s.advance (encode (p.set b)).length).put p (withBit b.val (s.valueAt p))).finish p.cbCycles ∧
    exec (p.res b) s =
      ((s.advance (encode (p.res b)).length).put p (withoutBit b.val (s.valueAt p))).finish p.cbCycles := by
  rcases p with r | _ | ⟨x, d⟩
  · fin_cases b <;> cases r <;> exact ⟨rfl, rfl⟩
  · fin_cases b <;> exact ⟨rfl, rfl⟩
  · fin_cases b <;> cases x <;> exact ⟨rfl, rfl⟩

/-- A store alone leaves the main bank. -/
theorem storeOnly_spec (s : State) (a : Word) (v : Byte) (len cost : Nat) :
    ∃ t, ((s.advance len).writeByte a v).finish cost = .next t ∧ s.onlyMain t len ∧ s.sameRegs t ∧ s.storesByte t a v ∧
      s.sameFlags t ∧ s.charged t cost ∧ s.quiet t := by
  obtain ⟨t, hnext, hcpu, hstores, hkept⟩ := changeMem_spec s a (fun _ => v) len cost
  obtain ⟨hregs, hflags⟩ := s.sameRegs_of_main t (by rw [hcpu])
  exact ⟨t, hnext, by rw [State.onlyMain, hcpu], hregs, hstores, hflags, hkept⟩

/-- What a write of the byte at a place leaves, when no flag is written with it. -/
theorem put_spec (s : State) (p : Place) (v : Byte) (len cost : Nat) :
    ∃ t, ((s.advance len).put p v).finish cost = .next t ∧ s.onlyMain t len ∧ s.putsAt t p v ∧ s.sameFlags t ∧
      s.charged t cost ∧ s.quiet t := by
  cases p with
  | reg r =>
    obtain ⟨t, hnext, hmain, hreg, hflags, hstores, hkept⟩ := changeReg_spec s r (fun _ => v) len cost
    exact ⟨t, hnext, hmain, ⟨hreg, hstores⟩, hflags, hkept⟩
  | memHl =>
    obtain ⟨t, hnext, hmain, hregs, hstores, hkept⟩ := storeOnly_spec s s.hl v len cost
    exact ⟨t, hnext, hmain, ⟨hregs, hstores⟩, hkept⟩
  | indexed x d =>
    obtain ⟨t, hnext, hmain, hregs, hstores, hkept⟩ := storeOnly_spec s (s.index x + d.signExtend 16) v len cost
    refine ⟨t, ?_, hmain, ⟨hregs, hstores⟩, hkept⟩
    cases x <;> exact hnext

/-- Settles O50: `BIT` is `testBit` of the byte at its place, and `SET` and `RES` are one write there (`put_spec`) of
`withBit` and `withoutBit`. -/
theorem bitInstructions : Obligations.BitInstructions := by
  intro b p s
  obtain ⟨hencBit, hencSet, hencRes⟩ := p.encode_bitForms b
  obtain ⟨hset, hres⟩ := p.exec_setRes b s
  refine ⟨⟨hencBit, ?_⟩, ⟨hencSet, ?_⟩, ⟨hencRes, ?_⟩⟩
  · obtain ⟨t, hnext, hmain, hregs, hflags, hkept⟩ :=
      testBit_spec s (s.valueAt p) b.val (encode (p.bit b)).length p.bitCycles
    refine ⟨t, (p.exec_bit b s).trans hnext, hmain, hregs, ?_⟩
    rw [hflags]
    exact ⟨rfl, rfl, rfl, rfl, hkept⟩
  · obtain ⟨t, hnext, hmain, hputs, hflags, hkept⟩ := put_spec s p (withBit b.val (s.valueAt p)) _ _
    exact ⟨t, _, hset.trans hnext, hmain, hputs, hflags, withBit_bit b _, hkept⟩
  · obtain ⟨t, hnext, hmain, hputs, hflags, hkept⟩ := put_spec s p (withoutBit b.val (s.valueAt p)) _ _
    exact ⟨t, _, hres.trans hnext, hmain, hputs, hflags, withoutBit_bit b _, hkept⟩

end Sys2Proof.Machine

/-! SUPPORT. The jumps, calls and returns: the shared operation of each condition, index register and restart. -/

namespace Sys2Proof.Machine

/-! ### The shared operation of each operand form -/

theorem exec_jpIf (s : State) (cc : Cond) (nn : Word) :
    exec (.jpIf cc nn) s = jumpIf s (s.flags.holds cc) nn 3 10 10 := by
  cases cc <;> rfl

theorem exec_jrIf (s : State) (cc : JrCond) (e : Byte) :
    exec (.jrIf cc e) s = jumpIf s (s.flags.holds cc.toCond) (relativeTarget s e) 2 7 12 := by
  cases cc <;> rfl

theorem exec_jpIndex (s : State) (x : IndexReg) : exec (.jpIndex x) s = jump s (s.index x) 2 8 := by
  cases x <;> rfl

theorem exec_callIf (s : State) (cc : Cond) (nn : Word) :
    exec (.callIf cc nn) s = callIf s (s.flags.holds cc) nn 3 10 17 := by
  cases cc <;> rfl

theorem exec_rst (s : State) (k : Fin 8) : exec (.rst k) s = call s (BitVec.ofNat 16 (8 * k.val)) 1 11 := by
  fin_cases k <;> rfl

theorem exec_retIf (s : State) (cc : Cond) : exec (.retIf cc) s = retIf s (s.flags.holds cc) 1 5 11 := by
  cases cc <;> rfl

theorem encode_jrIf (cc : JrCond) (e : Byte) : encode (.jrIf cc e) = [opByte 0 (condCode cc.toCond + 4) 0, e] := by
  cases cc <;> rfl

/-- `JP cc,nn` costs the same on both paths (R422). -/
theorem jpIf_spec (s : State) (cc : Cond) (nn : Word) :
    ∃ t, exec (.jpIf cc nn) s = .next t ∧ (condHolds s.cpu.main.f cc → t.cpu = s.cpu.jumped nn) ∧
      (¬ condHolds s.cpu.main.f cc → t.cpu = s.cpu.past 3) ∧ s.storesNothing t ∧ s.charged t 10 ∧ s.quiet t := by
  obtain ⟨t, hnext, hstores, hquiet, htaken, hpassed⟩ := jumpIf_spec s cc nn 3 10 10
  have hcharged : s.charged t 10 := by
    by_cases h : condHolds s.cpu.main.f cc
    · exact (htaken h).2
    · exact (hpassed h).2
  exact ⟨t, (exec_jpIf s cc nn).trans hnext, fun h => (htaken h).1, fun h => (hpassed h).1, hstores, hcharged, hquiet⟩

/-! ### The statements -/

/-- Settles O51: each form is `jump`, `jumpIf` or `decrementJump` of its target, read in the state before the instruction. -/
theorem jumps : Obligations.Jumps := by
  refine fun s nn e cc jc x => ⟨⟨rfl, jump_spec s nn 3 10⟩, ⟨by simp, jpIf_spec s cc nn⟩,
    ⟨rfl, jump_spec s (relativeTarget s e) 2 12⟩, ⟨encode_jrIf jc e, ?_⟩, ⟨rfl, jump_spec s s.hl 1 4⟩,
    ⟨by simp, ?_⟩, ⟨rfl, decrementJump_spec s e⟩⟩
  · rw [exec_jrIf]
    exact jumpIf_spec s jc.toCond (relativeTarget s e) 2 7 12
  · rw [exec_jpIndex]
    exact jump_spec s (s.index x) 2 8

/-- Settles O52: a restart is a `call` of 8 times its field, and a conditional call is `callIf`. -/
theorem callsAndRestarts : Obligations.CallsAndRestarts := by
  refine fun s nn cc k => ⟨⟨rfl, call_spec s nn 3 17⟩, ⟨by simp, ?_⟩, ⟨by simp, ?_⟩⟩
  · rw [exec_callIf]
    exact callIf_spec s cc nn 3 10 17
  · rw [exec_rst]
    exact call_spec s (BitVec.ofNat 16 (8 * k.val)) 1 11

/-- Settles O53: `RET` and `RET cc` are `ret` and `retIf`; `RETN` and `RETI` are the return from an interrupt, and `RETI` calls
the host after it. -/
theorem returns : Obligations.Returns := by
  refine fun s cc => ⟨⟨rfl, ret_spec s 1 10⟩, ⟨by simp, ?_⟩, ⟨rfl, returnNonMaskable_spec s⟩, ⟨rfl, returnMaskable_spec s⟩⟩
  rw [exec_retIf]
  exact retIf_spec s cc 1 5 11

end Sys2Proof.Machine

/-! SUPPORT. The input and output: a port that has a handler, or the permissive policy, lets the instruction go on; any other
port is a fault, and the block forms are two operations with their direction. -/

namespace Sys2Proof.Machine

/-! ### The shared operation of each operand form -/

theorem exec_inRegPortC (s : State) (r : Reg8) : exec (.inRegPortC r) s = inputReg s r := by
  cases r <;> rfl

theorem exec_outPortCReg (s : State) (r : Reg8) : exec (.outPortCReg r) s = outputReg s r := by
  cases r <;> rfl

/-- The four block inputs are one operation, with their direction and whether they repeat (R462 to R465). -/
theorem exec_blockIn {i : Instr} {move : Word} {repeats : Bool}
    (h : (i, move, repeats) ∈ ([(.ini, 1, false), (.inir, 1, true), (.ind, -1, false), (.indr, -1, true)] :
      List (Instr × Word × Bool))) (s : State) : exec i s = blockIn s move repeats := by
  simp only [List.mem_cons, Prod.mk.injEq, List.not_mem_nil, or_false] at h
  rcases h with ⟨rfl, rfl, rfl⟩ | ⟨rfl, rfl, rfl⟩ | ⟨rfl, rfl, rfl⟩ | ⟨rfl, rfl, rfl⟩ <;> rfl

/-- The four block outputs are one operation, with their direction and whether they repeat (R468 to R471). -/
theorem exec_blockOut {i : Instr} {move : Word} {repeats : Bool}
    (h : (i, move, repeats) ∈ ([(.outi, 1, false), (.otir, 1, true), (.outd, -1, false), (.otdr, -1, true)] :
      List (Instr × Word × Bool))) (s : State) : exec i s = blockOut s move repeats := by
  simp only [List.mem_cons, Prod.mk.injEq, List.not_mem_nil, or_false] at h
  rcases h with ⟨rfl, rfl, rfl⟩ | ⟨rfl, rfl, rfl⟩ | ⟨rfl, rfl, rfl⟩ | ⟨rfl, rfl, rfl⟩ <;> rfl

/-! ### The outcomes of an access (R114) -/

/-- Of an access that goes on with `next`, or else is at no handled port under the strict policy, a handled port or the
permissive policy leaves `next`. -/
theorem completes_of_handled {next handled stop : Prop} {policy : Policy}
    (hcases : next ∨ ¬ handled ∧ policy = .strict ∧ stop) (h : handled ∨ policy = .permissive) : next := by
  rcases hcases with hnext | ⟨hno, hstrict, _⟩
  · exact hnext
  · rcases h with h | h
    · exact absurd h hno
    · cases hstrict.symm.trans h

/-- The same for an output, which the banking port takes before any handler (R111). -/
theorem completes_of_bank_or_handled {next bank handled stop : Prop} {policy : Policy}
    (hcases : next ∨ ¬ bank ∧ ¬ handled ∧ policy = .strict ∧ stop) (h : bank ∨ handled ∨ policy = .permissive) : next :=
  completes_of_handled (handled := bank ∨ handled) (by rwa [not_or, and_assoc]) (or_assoc.mpr h)

theorem State.ioRead_badPort (u s : State) (port : Word) (k : Byte → State → Outcome)
    (hport : lowByte port ∉ u.cfg.portMapIn) (hstrict : u.cfg.portPolicy = .strict) :
    u.ioRead s port k = .fault (.badPort s.cpu.pc .input port none s) := by
  rcases u.ioRead_cases s port k with ⟨h, _⟩ | ⟨_, h, _⟩ | ⟨_, _, hfault⟩
  · exact absurd h hport
  · cases hstrict.symm.trans h
  · exact hfault

theorem State.ioWrite_badPort (u s : State) (port : Word) (v : Byte) (k : State → Outcome)
    (hbank : lowByte port ≠ u.cfg.ioBytePort) (hport : lowByte port ∉ u.cfg.portMapOut)
    (hstrict : u.cfg.portPolicy = .strict) :
    u.ioWrite s port v k = .fault (.badPort s.cpu.pc .output port (some v) s) := by
  rcases u.ioWrite_cases s port v k with ⟨h, _⟩ | ⟨_, h, _⟩ | ⟨_, _, h, _⟩ | ⟨_, _, _, hfault⟩
  · exact absurd h hbank
  · exact absurd h hport
  · cases hstrict.symm.trans h
  · exact hfault

@[simp] theorem lowByte_bc (s : State) : lowByte s.bc = s.cpu.main.c := lowByte_joinBytes _ _

theorem inputA_badPort (s : State) (n : Byte) (hport : n ∉ s.cfg.portMapIn) (hstrict : s.cfg.portPolicy = .strict) :
    inputA s n = .fault (.badPort s.cpu.pc .input (joinBytes s.cpu.main.a n) none s) :=
  State.ioRead_badPort _ s _ _ (by simpa using hport) hstrict

theorem inputReg_badPort (s : State) (r : Reg8) (hport : s.cpu.main.c ∉ s.cfg.portMapIn)
    (hstrict : s.cfg.portPolicy = .strict) :
    inputReg s r = .fault (.badPort s.cpu.pc .input s.bc none s) :=
  State.ioRead_badPort _ s _ _ (by simpa using hport) hstrict

theorem blockIn_badPort (s : State) (move : Word) (repeats : Bool) (hport : s.cpu.main.c ∉ s.cfg.portMapIn)
    (hstrict : s.cfg.portPolicy = .strict) :
    blockIn s move repeats = .fault (.badPort s.cpu.pc .input s.bc none s) :=
  State.ioRead_badPort _ s _ _ (by simpa using hport) hstrict

theorem outputA_badPort (s : State) (n : Byte) (hbank : n ≠ s.cfg.ioBytePort) (hport : n ∉ s.cfg.portMapOut)
    (hstrict : s.cfg.portPolicy = .strict) :
    outputA s n = .fault (.badPort s.cpu.pc .output (joinBytes s.cpu.main.a n) (some s.cpu.main.a) s) :=
  State.ioWrite_badPort _ s _ _ _ (by simpa using hbank) (by simpa using hport) hstrict

theorem outputReg_badPort (s : State) (r : Reg8) (hbank : s.cpu.main.c ≠ s.cfg.ioBytePort)
    (hport : s.cpu.main.c ∉ s.cfg.portMapOut) (hstrict : s.cfg.portPolicy = .strict) :
    outputReg s r = .fault (.badPort s.cpu.pc .output s.bc (some (s.reg8 r)) s) :=
  State.ioWrite_badPort _ s _ _ _ (by simpa using hbank) (by simpa using hport) hstrict

/-- The port of a block output is BC after the decrement (R468 to R471). -/
theorem blockOut_badPort (s : State) (move : Word) (repeats : Bool) (hbank : s.cpu.main.c ≠ s.cfg.ioBytePort)
    (hport : s.cpu.main.c ∉ s.cfg.portMapOut) (hstrict : s.cfg.portPolicy = .strict) :
    blockOut s move repeats =
      .fault (.badPort s.cpu.pc .output (joinBytes (s.cpu.main.b - 1) s.cpu.main.c) (some (s.readByte s.hl)) s) := by
  unfold blockOut
  exact State.ioWrite_badPort _ s _ _ _ (by simpa using hbank) (by simpa using hport) hstrict

theorem blockIoFlags_z (d : Flags) (b : Byte) : (blockIoFlags d (b - 1)).z = decide (b = 1) := by
  rw [blockIoFlags, beq_eq_decide]
  exact decide_eq_decide.mpr (count_zero b)

/-! ### The statements -/

/-- Settles O54: the two forms are `inputA` and `inputReg`, whose one access goes on at a handled port or under the permissive
policy. -/
theorem inputForms : Obligations.InputForms := by
  refine fun s => ⟨fun n => ⟨rfl, completes_of_handled (inputA_spec s n), inputA_badPort s n⟩,
    fun r => ⟨by simp, fun h => ?_, ?_⟩⟩
  · obtain ⟨t, v, hnext, hreads, hmain, hreg, hflags, hkept⟩ := completes_of_handled (inputReg_spec s r) h
    refine ⟨t, v, (exec_inRegPortC s r).trans hnext, hreads, hmain, hreg, ?_⟩
    rw [hflags]
    exact ⟨valueFlags_isValueFlags .., rfl, hkept⟩
  · rw [exec_inRegPortC]
    exact inputReg_badPort s r

/-- Settles O55: the two forms are `outputA` and `outputReg`, whose one access goes on at the banking port, at a handled port or
under the permissive policy. -/
theorem outputForms : Obligations.OutputForms := by
  refine fun s => ⟨fun n => ⟨rfl, completes_of_bank_or_handled (outputA_spec s n), outputA_badPort s n⟩,
    fun r => ⟨by simp, ?_⟩⟩
  rw [exec_outPortCReg]
  exact ⟨completes_of_bank_or_handled (outputReg_spec s r), outputReg_badPort s r⟩

/-- Settles O56: one iteration is `blockIn_spec`, and its flags are those of `blockIoFlags`. -/
theorem blockInput : Obligations.BlockInput := by
  refine ⟨rfl, rfl, rfl, rfl, fun s i move repeats hi => ?_⟩
  rw [exec_blockIn hi]
  refine ⟨fun h => ?_, blockIn_badPort s move repeats⟩
  obtain ⟨t, v, hnext, hreads, hstores, hb, hhl, hc, hde, ha, hflags, hpaths⟩ :=
    completes_of_handled (blockIn_spec s move repeats) h
  refine ⟨t, v, hnext, hreads, hstores, hb, hhl, hc, hde, ha, ?_⟩
  rw [hflags]
  exact ⟨blockIoFlags_z .., rfl, hpaths⟩

/-- Settles O57: one iteration is `blockOut_spec`, and its flags are those of `blockIoFlags`. -/
theorem blockOutput : Obligations.BlockOutput := by
  refine ⟨rfl, rfl, rfl, rfl, fun s i move repeats hi => ?_⟩
  rw [exec_blockOut hi]
  refine ⟨fun h => ?_, blockOut_badPort s move repeats⟩
  obtain ⟨t, hnext, hwrites, hb, hhl, hc, hde, ha, hflags, hpaths⟩ :=
    completes_of_bank_or_handled (blockOut_spec s move repeats) h
  refine ⟨t, hnext, hwrites, hb, hhl, hc, hde, ha, ?_⟩
  rw [hflags]
  exact ⟨blockIoFlags_z .., rfl, hpaths⟩

end Sys2Proof.Machine

/-! SUPPORT. The boundary run forwards: what the step is in each case of R502, what phase 3 is at an undocumented encoding, and
what each acceptance leaves. -/

namespace Sys2Proof.Machine

/-! ### Phase 3 -/

theorem State.phase3_halted {s : State} (h : s.cpu.halted = true) : s.phase3 = .next s.idle := if_pos h

theorem State.phase3_decoded {s : State} {i : Instr} {rest : List Byte} (hawake : s.cpu.halted = false)
    (hdec : decode s.fetch = .ok (i, rest)) : s.phase3 = exec i s := by
  simp [State.phase3, State.executeInstruction, hawake, hdec]

theorem State.phase3_undocumented {s : State} {bytes : List Byte} (hawake : s.cpu.halted = false)
    (hdec : decode s.fetch = .error (.undocumented bytes)) : s.phase3 = s.undocumented bytes := by
  simp [State.phase3, State.executeInstruction, hawake, hdec]

/-- An undocumented encoding is a fault only where the policy is strict and the host answers abort (R519). -/
theorem State.undocumented_refuses (s : State) (bytes : List Byte)
    (h : s.cfg.opcodePolicy = .permissive ∨ (s.hostReply (.opcodeWarning s.cpu)).abort = false) :
    s.undocumented bytes = .refused (.undocumentedEncoding s.cpu.pc bytes) := by
  unfold State.undocumented
  cases hpolicy : s.cfg.opcodePolicy with
  | permissive => rfl
  | strict =>
    have habort : (s.hostReply (.opcodeWarning s.cpu)).abort = false := h.resolve_left (by simp [hpolicy])
    simp [habort]

theorem State.undocumented_faults (s : State) (bytes : List Byte) (hstrict : s.cfg.opcodePolicy = .strict)
    (habort : (s.hostReply (.opcodeWarning s.cpu)).abort = true) :
    s.undocumented bytes = .fault (.illegalOpcode s.cpu.pc bytes s) := by
  simp [State.undocumented, hstrict, habort]

/-- Settles O6: phase 3 is then `undocumented`, and a refusal or a fault passes the guard as it is. -/
theorem undocumentedStep : Obligations.UndocumentedStep := by
  intro s bytes hquiet hawake hdec
  rw [step_undisturbed s hquiet, State.phase3_undocumented hawake hdec]
  refine ⟨fun hpermissive => ?_, fun hstrict habort => ?_, fun _ hcontinue => ?_⟩
  · rw [s.undocumented_refuses bytes (.inl hpermissive)]
    rfl
  · rw [s.undocumented_faults bytes hstrict habort]
    rfl
  · rw [s.undocumented_refuses bytes (.inr hcontinue)]
    rfl

/-! ### The step at a boundary that takes up a request -/

theorem step_nmi {s : State} (h : s.nmiPending = true) : step s = guardElapsed (.next s.acceptNmi) := by
  rw [step, State.boundary, if_pos h]

theorem step_acceptsMaskable {s : State} (h : s.acceptsMaskable) :
    (∀ t, s.acceptMaskable = .taken t → step s = guardElapsed (.next t)) ∧
      (∀ t, s.acceptMaskable = .declined t → step s = guardElapsed (preciseFrom s t.phase3)) ∧
      ∀ r, s.acceptMaskable = .failed r → step s = .fault r := by
  obtain ⟨hnmi, hready⟩ := h
  rw [step, State.boundary, if_neg (by simp [hnmi]), if_pos (s.maskableReady_iff.mpr hready)]
  refine ⟨fun t ht => ?_, fun t ht => ?_, fun r hr => ?_⟩
  · simp only [ht]
  · simp only [ht]
  · simp only [hr, guardElapsed]

theorem step_fixed {s : State} (h : s.acceptsMaskable) (him : s.cpu.im ≠ .im2) :
    step s = guardElapsed (.next s.acceptFixed) := by
  obtain ⟨htaken, _⟩ := step_acceptsMaskable h
  apply htaken
  unfold State.acceptMaskable
  cases hmode : s.cpu.im with
  | im0 => rfl
  | im1 => rfl
  | im2 => exact absurd hmode him

theorem step_vectored {s : State} (h : s.acceptsMaskable) (him : s.cpu.im = .im2)
    (hanswer : (s.hostReply (.acknowledge s.cpu)).accept = true) :
    step s = guardElapsed (.next
      ((s.afterCall (.acknowledge s.cpu)).acceptVectored (s.hostReply (.acknowledge s.cpu)).value)) := by
  obtain ⟨htaken, _⟩ := step_acceptsMaskable h
  apply htaken
  simp [State.acceptMaskable, him, State.acknowledge, hanswer]

theorem step_declined {s : State} (h : s.acknowledgeDeclined) :
    (s.cfg.ackPolicy = .permissive →
      step s = guardElapsed (preciseFrom s (s.afterCall (.acknowledge s.cpu)).dropRequest.phase3)) ∧
    (s.cfg.ackPolicy = .strict → step s = .fault (.ackDeclined s.cpu.pc s.cpu.i s)) := by
  obtain ⟨hmaskable, him, hanswer⟩ := h
  obtain ⟨_, hdeclined, hfailed⟩ := step_acceptsMaskable hmaskable
  refine ⟨fun hpolicy => ?_, fun hpolicy => ?_⟩
  · apply hdeclined
    simp [State.acceptMaskable, him, State.acknowledge, hanswer, hpolicy]
  · apply hfailed
    simp [State.acceptMaskable, him, State.acknowledge, hanswer, hpolicy]

/-- A step whose outcome is guarded goes on while the count stays a 64-bit one (R49). -/
theorem step_next_of_guarded {s t : State} {cost : Nat} (hstep : step s = guardElapsed (.next t)) (hcost : s.charged t cost)
    (hbound : s.iElapsed + cost < 2 ^ 64) : step s = .next t := by
  obtain ⟨_, helapsed, _⟩ := hcost
  rw [hstep, guardElapsed_ok t (by rwa [helapsed])]

/-! ### What an acceptance leaves -/

/-- `takeInterrupt_spec` from the boundary `s`, whose requests and host's part alone may differ in `u`. -/
theorem SameMachine.takeInterrupt_spec {s u : State} (h : SameMachine s u) (iff1 iff2 : Bool) (target : State → Word)
    (cost : Nat) :
    let t := (u.takeInterrupt iff1 iff2 target).endStep cost
    (∃ w : State, t.cpu = { s.cpu with
        iff1 := iff1, iff2 := iff2, halted := false, inService := true, eiDelay := false
        sp := s.cpu.sp - 2, pc := target w } ∧ w.sameMemory t) ∧
      s.charged t cost ∧ s.pushed t s.cpu.pc ∧ u.quiet t := by
  obtain ⟨hcpu, hpushed, hcharged, hquiet⟩ := u.takeInterrupt_spec iff1 iff2 target cost
  rw [h.cpu] at hcpu hpushed
  exact ⟨hcpu, State.charged_after_uncharged h.uncharged hcharged, hpushed s h.memory rfl, hquiet⟩

theorem State.acceptNmi_spec (s : State) :
    s.acceptNmi.cpu = { s.cpu with
        iff2 := s.cpu.iff1, iff1 := false, halted := false, inService := true, eiDelay := false
        sp := s.cpu.sp - 2, pc := 0x0066 } ∧
      s.acceptNmi.nmiPending = false ∧ s.acceptNmi.intPending = s.intPending ∧ s.acceptNmi.hostLog = s.hostLog ∧
      s.acceptNmi.hostReplies = s.hostReplies ∧ s.charged s.acceptNmi 11 ∧ s.pushed s.acceptNmi s.cpu.pc := by
  obtain ⟨⟨_, hcpu, _⟩, hcharged, hpushed, hint, hnmi, hreplies, hlog⟩ :=
    ((SameMachine.refl s).withRequests s.intPending false).takeInterrupt_spec false s.cpu.iff1 (fun _ => 0x0066) 11
  exact ⟨hcpu, hnmi, hint, hlog, hreplies, hcharged, hpushed⟩

theorem State.acceptFixed_spec (s : State) :
    s.acceptFixed.cpu = { s.cpu with
        iff1 := false, iff2 := false, halted := false, inService := true, eiDelay := false
        sp := s.cpu.sp - 2, pc := 0x0038 } ∧
      s.acceptFixed.intPending = false ∧ s.acceptFixed.nmiPending = s.nmiPending ∧ s.acceptFixed.hostLog = s.hostLog ∧
      s.acceptFixed.hostReplies = s.hostReplies ∧ s.charged s.acceptFixed 13 ∧ s.pushed s.acceptFixed s.cpu.pc := by
  obtain ⟨⟨_, hcpu, _⟩, hcharged, hpushed, hint, hnmi, hreplies, hlog⟩ :=
    ((SameMachine.refl s).withRequests false s.nmiPending).takeInterrupt_spec false false (fun _ => 0x0038) 13
  exact ⟨hcpu, hint, hnmi, hlog, hreplies, hcharged, hpushed⟩

/-- The handler's address, read after the push, is what the step leaves at `I ++ v` (R508). -/
theorem SameMachine.acceptVectored_spec {s u : State} (h : SameMachine s u) (v : Byte) :
    let t := u.acceptVectored v
    t.cpu = { s.cpu with
        iff1 := false, iff2 := false, halted := false, inService := true, eiDelay := false
        sp := s.cpu.sp - 2
        pc := joinBytes (t.readByte (joinBytes s.cpu.i v + 1)) (t.readByte (joinBytes s.cpu.i v)) } ∧
      t.intPending = false ∧ t.nmiPending = u.nmiPending ∧ t.hostLog = u.hostLog ∧ t.hostReplies = u.hostReplies ∧
      s.charged t 19 ∧ s.pushed t s.cpu.pc := by
  obtain ⟨⟨w, hcpu, hmem⟩, hcharged, hpushed, hint, hnmi, hreplies, hlog⟩ :=
    (h.withRequests false u.nmiPending).takeInterrupt_spec false false
      (fun t => t.readWord (joinBytes u.cpu.i v)) 19
  intro t
  have hread : ∀ x, w.readByte x = t.readByte x := State.sameMemory_readByte w t hmem
  have hpc : w.readWord (joinBytes u.cpu.i v) =
      joinBytes (t.readByte (joinBytes s.cpu.i v + 1)) (t.readByte (joinBytes s.cpu.i v)) := by
    rw [State.readWord, h.cpu, hread, hread]
  exact ⟨hcpu.trans (by rw [hpc]), hint, hnmi, hlog, hreplies, hcharged, hpushed⟩

/-- Settles O8: the step is `acceptNmi`. -/
theorem nmiAcceptance : Obligations.NmiAcceptance := by
  intro s h hbound
  obtain ⟨hcpu, hnmi, hint, hlog, hreplies, hcharged, hpushed⟩ := s.acceptNmi_spec
  exact ⟨_, step_next_of_guarded (step_nmi h) hcharged hbound, hcpu, hnmi, hint, hlog, hreplies, hcharged, hpushed⟩

/-- Settles O9: in modes 0 and 1 the step is `acceptFixed`, and in mode 2 `acceptVectored` after the call, which can leave no
request but an NMI. -/
theorem maskableAcceptance : Obligations.MaskableAcceptance := by
  refine ⟨fun s h him hbound => ?_, fun s h him hbound hanswer => ?_⟩
  · obtain ⟨hcpu, hint, hnmi, hlog, hreplies, hcharged, hpushed⟩ := s.acceptFixed_spec
    exact ⟨_, step_next_of_guarded (step_fixed h him) hcharged hbound, hcpu, hint, hnmi.trans h.1, hlog, hreplies, hcharged,
      hpushed⟩
  · have hcall := (SameMachine.refl s).afterCall (.acknowledge s.cpu)
    obtain ⟨hcpu, hint, hnmi, hlog, hreplies, hcharged, hpushed⟩ :=
      hcall.acceptVectored_spec (s.hostReply (.acknowledge s.cpu)).value
    have hraised : (s.afterCall (.acknowledge s.cpu)).nmiPending = (s.hostReply (.acknowledge s.cpu)).raiseNmi := by
      simp [h.1]
    exact ⟨_, step_next_of_guarded (step_vectored h him hanswer) hcharged hbound, hcpu, hint, hnmi.trans hraised, hlog,
      hreplies, hcharged, hpushed⟩

/-! ### The declined acknowledge -/

/-- The machine phase 3 begins from after a declined acknowledge under the permissive policy (R509). -/
def State.afterDecline (s : State) : State :=
  { s with
    intPending := false
    nmiPending := (s.hostReply (.acknowledge s.cpu)).raiseNmi
    hostReplies := s.hostReplies.tail
    hostLog := .ackDeclined s.cpu.pc :: .acknowledge s.cpu :: s.hostLog }

theorem dropRequest_eq_afterDecline {s : State} (hnmi : s.nmiPending = false) :
    (s.afterCall (.acknowledge s.cpu)).dropRequest = s.afterDecline := by
  simp [State.dropRequest, State.afterDecline, State.afterCall, State.latch, State.emit, hnmi]

theorem State.idle_eq {s : State} (h : s.cpu.eiDelay = false) :
    s.idle = { s with iCount := s.iCount - 4, iElapsed := s.iElapsed + 4 } := by
  have hcpu : { s.cpu with eiDelay := false } = s.cpu := by rw [← h]
  simp [State.idle, State.endStep, State.setEiDelay, State.charge, hcpu]

/-- Settles O10: under the permissive policy the step is phase 3 from `afterDecline`, and its record is made precise; under
the strict policy it is the fault. -/
theorem declinedAcknowledge : Obligations.DeclinedAcknowledge := by
  intro s h u
  have ⟨⟨hnmi, _, _, hdelay⟩, _⟩ := h
  obtain ⟨hpermissive, hstrict⟩ := step_declined h
  have hstep (hpolicy : s.cfg.ackPolicy = .permissive) : step s = guardElapsed (preciseFrom s u.phase3) := by
    rw [hpermissive hpolicy, dropRequest_eq_afterDecline hnmi]
    rfl
  refine ⟨fun hpolicy hhalted => ?_, fun hpolicy hawake => ⟨fun i rest hfetch => ?_, fun bytes hdec => ⟨?_, ?_⟩⟩,
    hstrict⟩
  · rw [hstep hpolicy, State.phase3_halted (s := u) hhalted, State.idle_eq (s := u) hdelay]
    rfl
  · have hdec : decode u.fetch = .ok (i, rest) := (congrArg decode hfetch).trans (decode_encode i rest)
    rw [hstep hpolicy, State.phase3_decoded (s := u) hawake hdec]
  · intro hstrict habort
    rw [hstep hpolicy, State.phase3_undocumented (s := u) hawake hdec, u.undocumented_faults bytes hstrict habort]
    rfl
  · intro hrefuses
    rw [hstep hpolicy, State.phase3_undocumented (s := u) hawake hdec, u.undocumented_refuses bytes hrefuses]
    rfl

end Sys2Proof.Machine

/-! SUPPORT. What every step does to the interrupt state and the requests: it takes an interrupt, or it is phase 3 from the
machine at the boundary; and phase 3 drops no request. -/

namespace Sys2Proof.Machine

/-! ### Acceptance or phase 3 -/

/-- What every acceptance leaves of the CPU, whatever its mode (R504, R506 to R508). -/
structure TakesInterrupt (s t : State) : Prop where
  halted : t.cpu.halted = false
  inService : t.cpu.inService = true
  iff1 : t.cpu.iff1 = false
  eiDelay : t.cpu.eiDelay = false
  sp : t.cpu.sp = s.cpu.sp - 2

theorem State.acceptNmi_takesInterrupt (s : State) : TakesInterrupt s s.acceptNmi := by
  obtain ⟨hcpu, _⟩ := s.acceptNmi_spec
  constructor <;> rw [hcpu]

theorem State.acceptFixed_takesInterrupt (s : State) : TakesInterrupt s s.acceptFixed := by
  obtain ⟨hcpu, _⟩ := s.acceptFixed_spec
  constructor <;> rw [hcpu]

theorem SameMachine.acceptVectored_takesInterrupt {s u : State} (h : SameMachine s u) (v : Byte) :
    TakesInterrupt s (u.acceptVectored v) := by
  obtain ⟨hcpu, _⟩ := h.acceptVectored_spec v
  constructor <;> rw [hcpu]

/-- The boundary of `s` takes up no request that ends the step: nothing is accepted, or the acknowledge is declined. -/
abbrev State.reachesPhase3 (s : State) : Prop := s.undisturbed ∨ s.acknowledgeDeclined

/-- A step takes an interrupt, or it is phase 3 from the machine at the boundary (R502). -/
theorem step_takesInterrupt_or_phase3 {s t : State} (h : step s = .next t) :
    (s.nmiPending = true ∨ s.acceptsMaskable) ∧ ¬ s.reachesPhase3 ∧ TakesInterrupt s t ∨
      s.reachesPhase3 ∧ ∃ u, SameMachine s u ∧ u.phase3 = .next t := by
  have hs := SameMachine.refl s
  obtain ⟨_, ⟨hnmi, rfl⟩ | ⟨hmaskable, him, rfl⟩ | ⟨hmaskable, _, hanswer, rfl⟩ | ⟨hdeclined, _, hp⟩ | ⟨hquiet, hp⟩⟩ :=
    step_cases s t h
  · refine .inl ⟨.inl hnmi, ?_, s.acceptNmi_takesInterrupt⟩
    rintro (⟨hno, _⟩ | ⟨⟨hno, _⟩, _⟩) <;> exact absurd (hno.symm.trans hnmi) (by decide)
  · refine .inl ⟨.inr hmaskable, ?_, s.acceptFixed_takesInterrupt⟩
    rintro (⟨_, hno⟩ | ⟨_, him2, _⟩)
    · exact hno hmaskable.2
    · exact him him2
  · refine .inl ⟨.inr hmaskable, ?_, (hs.afterCall _).acceptVectored_takesInterrupt _⟩
    rintro (⟨_, hno⟩ | ⟨_, _, hno⟩)
    · exact hno hmaskable.2
    · exact absurd (hno.symm.trans hanswer) (by decide)
  · exact .inr ⟨.inr hdeclined, _, (hs.afterCall _).dropRequest, hp⟩
  · exact .inr ⟨.inl hquiet, s, hs, hp⟩

/-- Settles O7: where nothing is accepted the step is `idle`; and a step of a halted CPU that reaches phase 3 is an idle step
from the same registers. -/
theorem haltedSteps : Obligations.HaltedSteps := by
  refine ⟨fun s hquiet hhalted hbound => ?_, fun s t hhalted h => ?_⟩
  · have hstep : step s = guardElapsed (.next s.idle) := by rw [step_undisturbed s hquiet, State.phase3_halted hhalted]
    have hcharged : s.charged s.idle 4 := ⟨rfl, rfl, rfl, rfl⟩
    exact ⟨s.idle, step_next_of_guarded hstep hcharged hbound, rfl, rfl, hcharged, ⟨rfl, rfl, rfl, rfl⟩,
      s.storesNothing_of _ ⟨rfl, rfl, rfl, rfl, rfl, rfl, rfl⟩⟩
  · obtain ⟨hrequest, _, ht⟩ | ⟨_, u, hu, hp⟩ := step_takesInterrupt_or_phase3 h
    · exact .inr ⟨ht.halted, ht.inService, ht.iff1, ht.sp, hrequest⟩
    · rw [State.phase3_halted (hu.cpu ▸ hhalted)] at hp
      cases hp
      exact .inl (congrArg (fun c : Cpu => { c with eiDelay := false }) hu.cpu)

/-! ### `eiDelay` (R511) -/

/-- Everything an instruction that goes on can be: the host trap, `EI`, or routine. -/
theorem exec_next_cases {i : Instr} {s t : State} (h : exec i s = .next t) :
    i = .patch ∧ hostPatch s = .next t ∨ i = .ei ∧ enableInterrupts s = .next t ∨ i ≠ .ei ∧ Routine s t := by
  by_cases hp : i = .patch
  · subst hp
    exact .inl ⟨rfl, h⟩
  by_cases he : i = .ei
  · subst he
    exact .inr (.inl ⟨rfl, h⟩)
  rcases exec_routine i s hp he with ⟨u, hnext, hr⟩ | ⟨_, _, _, hfault⟩
  · cases hnext.symm.trans h
    exact .inr (.inr ⟨he, hr⟩)
  · cases hfault.symm.trans h

/-- Of the instructions `EI` alone ends its step with `eiDelay` set. -/
theorem exec_eiDelay {i : Instr} {s t : State} (h : exec i s = .next t) : t.cpu.eiDelay = true ↔ i = .ei := by
  obtain ⟨rfl, hpatch⟩ | ⟨rfl, hei⟩ | ⟨hne, hr⟩ := exec_next_cases h
  · obtain ⟨u, hnext, hdelay, _⟩ := hostPatch_spec s
    cases hnext.symm.trans hpatch
    simp [hdelay]
  · obtain ⟨u, hnext, hcpu, _⟩ := enableInterrupts_spec s
    cases hnext.symm.trans hei
    simp [hcpu]
  · simp [hr.eiDelay, hne]

/-- What was fetched decodes to `EI` exactly where the byte at PC is 0xFB (R328). -/
theorem decoded_ei_iff {s : State} {i : Instr} {rest : List Byte} (hdec : decode s.fetch = .ok (i, rest)) :
    i = .ei ↔ s.readByte s.cpu.pc = 0xFB := by
  constructor
  · rintro rfl
    have hbytes : s.fetch = 0xFB :: rest := decodedBytesAreEncodings _ _ _ hdec
    exact (List.cons.inj hbytes).1
  · intro hfb
    have hbytes : s.fetch = encode .ei ++ s.fetch.tail := congrArg (· :: s.fetch.tail) hfb
    rw [hbytes, decode_encode] at hdec
    cases hdec
    rfl

/-- Settles O11: no acceptance and no idle step leaves `eiDelay` set, and of the instructions only `EI` does. -/
theorem eiDelayOnlyAfterEi : Obligations.EiDelayOnlyAfterEi := by
  intro s t h
  obtain ⟨_, hno, ht⟩ | ⟨hreaches, u, hu, hp⟩ := step_takesInterrupt_or_phase3 h
  · simp [ht.eiDelay, hno]
  rw [← hu.cpu, ← State.sameMemory_readByte u s hu.memory]
  obtain ⟨hhalted, rfl⟩ | ⟨hawake, i, rest, hdec, hexec⟩ := u.phase3_cases t hp
  · simp [hhalted, State.idle]
  · rw [exec_eiDelay hexec, decoded_ei_iff hdec]
    exact ⟨fun hfb => ⟨hreaches, hawake, hfb⟩, fun ⟨_, _, hfb⟩ => hfb⟩

/-! ### Requests -/

theorem Routine.keepsRequests {s t : State} (h : Routine s t) : KeepsRequests s t :=
  ⟨h.intPending, h.nmiPending, h.told⟩

theorem exec_keepsRequests {i : Instr} {s t : State} (h : exec i s = .next t) : KeepsRequests s t := by
  obtain ⟨_, hpatch⟩ | ⟨_, hei⟩ | ⟨_, hr⟩ := exec_next_cases h
  · obtain ⟨u, hnext, _, _, _, _, _, hcalled⟩ := hostPatch_spec s
    cases hnext.symm.trans hpatch
    exact .of_called hcalled rfl
  · obtain ⟨u, hnext, _, _, _, hquiet⟩ := enableInterrupts_spec s
    cases hnext.symm.trans hei
    exact .of_quiet hquiet
  · exact hr.keepsRequests

theorem State.phase3_keepsRequests {s t : State} (h : s.phase3 = .next t) : KeepsRequests s t := by
  rcases s.phase3_cases t h with ⟨_, rfl⟩ | ⟨_, i, rest, _, hexec⟩
  · exact ⟨id, id, rfl⟩
  · exact exec_keepsRequests hexec

/-- Settles O12: an NMI acceptance leaves the maskable latch and phase 3 drops no request; every other way a step can go is at
a boundary that accepts maskable requests. -/
theorem requestsStayPending : Obligations.RequestsStayPending := by
  refine fun s t h => ⟨fun hint => ?_, fun hnmi => ?_⟩
  · obtain ⟨_, ⟨_, rfl⟩ | ⟨hmaskable, _⟩ | ⟨hmaskable, _⟩ | ⟨⟨hmaskable, _⟩, _⟩ | ⟨_, hp⟩⟩ := step_cases s t h
    · obtain ⟨_, _, hkept, _⟩ := s.acceptNmi_spec
      exact .inl (hkept.trans hint)
    · exact .inr hmaskable
    · exact .inr hmaskable
    · exact .inr hmaskable
    · exact .inl ((State.phase3_keepsRequests hp).intPending hint)
  · have hguarded : guardElapsed (.next s.acceptNmi) = .next t := (step_nmi hnmi).symm.trans h
    obtain ⟨haccepted, _⟩ := (guardElapsed_next _ _).mp hguarded
    cases haccepted
    obtain ⟨hcpu, hclear, _⟩ := s.acceptNmi_spec
    exact ⟨hclear, by rw [hcpu]⟩

/-! ### Costs and completion -/

/-- Settles O13: `step_chargesCost`. -/
theorem everyStepChargesBothCounters : Obligations.EveryStepChargesBothCounters := fun _ _ hvalid h =>
  step_chargesCost hvalid h

/-- Settles O16: `EI` and `PATCH` always complete, and what stops another instruction is a port with no handler under the
strict policy. -/
theorem everyInstructionCompletes : Obligations.EveryInstructionCompletes := by
  intro i s hports
  by_cases hp : i = .patch
  · subst hp
    exact ⟨_, rfl⟩
  by_cases he : i = .ei
  · subst he
    exact ⟨_, rfl⟩
  rcases exec_routine i s hp he with ⟨t, hnext, _⟩ | ⟨hstrict, hunhandled, _⟩
  · exact ⟨t, hnext⟩
  exfalso
  rcases hports with hpermissive | ⟨hin, hout⟩
  · cases hstrict.symm.trans hpermissive
  · rcases hunhandled with ⟨b, hb⟩ | ⟨b, hbank, hb⟩
    · exact hb (hin b)
    · exact (hout b).elim hbank hb

end Sys2Proof.Machine

/-! SUPPORT. The run loop: the cycles a host was told of against those run, over a step and over the periodic callback, and what
the callback comes to. -/

namespace Sys2Proof.Machine

/-! ### The balance of the cycles (R512, R513) -/

/-- The cycles told in the callbacks and those run since the last reload, less the elapsed ones. -/
def State.cycleBalance (s : State) : Int := elapsedTold s.hostLog + (s.iBackup - s.iCount) - s.iElapsed

/-- No step makes the periodic callback. -/
theorem step_told {s t : State} (h : step s = .next t) : elapsedTold t.hostLog = elapsedTold s.hostLog := by
  obtain ⟨_, ⟨_, rfl⟩ | ⟨_, _, rfl⟩ | ⟨_, _, _, rfl⟩ | ⟨_, _, hp⟩ | ⟨_, hp⟩⟩ := step_cases s t h
  · obtain ⟨_, _, _, hlog, _⟩ := s.acceptNmi_spec
    rw [hlog]
  · obtain ⟨_, _, _, hlog, _⟩ := s.acceptFixed_spec
    rw [hlog]
  · have hcall := (SameMachine.refl s).afterCall (.acknowledge s.cpu)
    obtain ⟨_, _, _, hlog, _⟩ := hcall.acceptVectored_spec (s.hostReply (.acknowledge s.cpu)).value
    rw [hlog]
    rfl
  · exact (State.phase3_keepsRequests hp).told
  · exact (State.phase3_keepsRequests hp).told

theorem step_charged {s t : State} (h : step s = .next t) : ∃ cost, s.charged t cost := by
  obtain ⟨_, cost, _, hcharged⟩ | hpatch := step_ordinary_or_patch h
  · exact ⟨cost, hcharged⟩
  · exact ⟨_, hpatch.charged⟩

theorem step_cycleBalance {s t : State} (h : step s = .next t) : t.cycleBalance = s.cycleBalance := by
  obtain ⟨cost, hcount, helapsed, _, hbackup⟩ := step_charged h
  rw [State.cycleBalance, State.cycleBalance, step_told h, hcount, helapsed, hbackup]
  omega

/-- The callback tells exactly the cycles that its reload takes from the count (R513). -/
theorem State.periodic_cycleBalance {s t : State} (h : s.periodic.Leaves t) : t.cycleBalance = s.cycleBalance := by
  obtain ⟨p, int, nmi, _, rfl⟩ := State.periodic_leaves h
  show (s.iBackup - s.iCount) + elapsedTold s.hostLog + ((s.iCount + p) - (s.iCount + p)) - (s.iElapsed : Int) =
    elapsedTold s.hostLog + (s.iBackup - s.iCount) - s.iElapsed
  omega

/-- Settles O21: the step and the callback each keep `cycleBalance`. -/
theorem runLosesNoCycle : Obligations.RunLosesNoCycle := by
  intro s t h
  obtain ⟨u, hstep, ⟨_, rfl⟩ | ⟨_, hleft⟩⟩ := runStep_leaves h
  · exact step_cycleBalance hstep
  · exact (State.periodic_cycleBalance hleft).trans (step_cycleBalance hstep)

/-! ### The periodic callback (R513, R514, R541) -/

theorem runStep_of_step {s t : State} (h : step s = .next t) :
    runStep s = if t.iCount ≤ 0 then t.periodic else .running t := by
  rw [runStep, h]

/-- The call that a periodic callback makes. -/
abbrev State.periodicEvent (s : State) : HostEvent := .periodicCheck s.sinceReload s.cpu

/-- The machine after the callback and its reload, with the period the host wrote, if it wrote one. -/
def State.reloaded (s : State) : State :=
  ({ s.afterCall s.periodicEvent with
    iPeriod := (s.hostReply s.periodicEvent).newPeriod.getD s.iPeriod } : State).reload

theorem State.setIPeriod_ok (s : State) {p : Int} (h : periodOk p = true) : s.setIPeriod p = .next { s with iPeriod := p } :=
  if_pos h

theorem State.setIPeriod_refuses (s : State) {p : Int} (h : ¬ periodOk p = true) :
    s.setIPeriod p = .refused (.periodOutOfRange p) := if_neg h

theorem State.periodic_eq_reloaded {s : State} (h : (s.hostReply s.periodicEvent).newPeriod = none ∨
    ∃ p, (s.hostReply s.periodicEvent).newPeriod = some p ∧ periodOk p = true) :
    s.periodic = s.reloaded.handleResult (s.hostReply s.periodicEvent).result := by
  unfold State.periodic State.reloaded
  rcases h with hnone | ⟨p, hsome, hok⟩
  · simp only [hnone]
    rfl
  · simp only [hsome, State.setIPeriod_ok _ hok]
    rfl

theorem State.periodic_refuses {s : State} {p : Int} (hsome : (s.hostReply s.periodicEvent).newPeriod = some p)
    (hbad : ¬ periodOk p = true) : s.periodic = .refused (.periodOutOfRange p) := by
  unfold State.periodic
  simp only [hsome, State.setIPeriod_refuses _ hbad]

/-- The answer of the callback in full (R514). -/
theorem State.handleResult_eq (s : State) (r : Word) :
    s.handleResult 0xFFFF = .running s ∧ s.handleResult 0xFFFE = .quit s.cpu.pc s ∧
    s.handleResult 0x0066 = .running { s with nmiPending := true } ∧
    (r ≠ 0xFFFF → r ≠ 0xFFFE → r ≠ 0x0066 → s.handleResult r = .running { s with intPending := true }) := by
  refine ⟨rfl, rfl, rfl, fun hnothing hquit hnmi => ?_⟩
  simp only [State.handleResult, hnothing, hquit, hnmi, if_false]
  rfl

/-- Settles O22: a pass goes on while ICount lasts; after that the callback leaves `reloaded`, or refuses a period out of
range. -/
theorem periodicCheck : Obligations.PeriodicCheck := by
  refine ⟨?_, State.handleResult_eq⟩
  intro s t hstep ev r
  refine ⟨fun hpos => ?_, fun hused hperiod => ?_, fun p hused hsome hbad => ?_⟩
  · rw [runStep_of_step hstep, if_neg (by omega)]
  · have hperiod : r.newPeriod = none ∨ ∃ p, r.newPeriod = some p ∧ periodOk p = true := by
      simpa only [periodOk_iff] using hperiod
    refine ⟨t.reloaded, ?_, ⟨rfl, rfl, rfl, rfl⟩, rfl, t.storesNothing_of _ ⟨rfl, rfl, rfl, rfl, rfl, rfl, rfl⟩, rfl, rfl,
      rfl, rfl⟩
    rw [runStep_of_step hstep, if_pos hused]
    exact State.periodic_eq_reloaded hperiod
  · rw [runStep_of_step hstep, if_pos hused]
    exact State.periodic_refuses hsome (by rw [periodOk_iff]; omega)

end Sys2Proof.Machine

/-! SUPPORT. Reset, and words of single rules. -/

namespace Sys2Proof.Machine

/-- Settles O17: the draws of `reset` are numbered on from the count of those made before. -/
theorem cpuReset : Obligations.CpuReset := fun s =>
  ⟨rfl, rfl, rfl, rfl, rfl, rfl, rfl, rfl, rfl, rfl, rfl, rfl, rfl, rfl, rfl, rfl,
    s.storesNothing_of _ ⟨rfl, rfl, rfl, rfl, rfl, rfl, rfl⟩, rfl, rfl,
    (s.draws + ·), fun _ _ => Nat.add_left_cancel, fun _ => Nat.le_add_right _ _, rfl, rfl, rfl, rfl⟩

/-- Settles O18: the machine after power-on lists no byte, and its configuration is valid. -/
theorem resetState : Obligations.ResetState := by
  have hvalid : State.reset.cfg.valid = true := by decide
  have hperiod : periodOk State.reset.iPeriod = true := by decide
  exact ⟨⟨rfl, rfl, rfl, rfl, rfl, rfl, rfl, rfl, rfl, rfl, rfl, rfl, rfl, rfl, rfl, rfl, rfl, rfl⟩,
    ⟨State.reset_memoryWf, hvalid, hperiod, Nat.two_pow_pos 64⟩, nofun, nofun, nofun⟩

end Sys2Proof.Machine

namespace Sys2Proof

/-- Settles O3: each word is the encoding of its instruction, which decodes to it (`decode_encode`). -/
theorem sampleWords : Obligations.SampleWords :=
  ⟨decode_encode (.ldAN 0x42) [], decode_encode (.ldBcNn 0x1234) [], decode_encode .exDeHl [],
    decode_encode (.addAMemIxd 0x01) [], decode_encode .im2 [], decode_encode .sbcHlDe [],
    decode_encode (.srlMemIyd 0xFF) [], decode_encode .bit7MemHl [], decode_encode (.callCNn 0x9000) [],
    decode_encode .otir [], decode_encode .patch []⟩

end Sys2Proof
